-- ==== Sys2Proof/Word.lean ====
section
/-!
DEFINITION. The word types of the block (R9, R52): every value is a natural number below a power of two, never signed.
-/

namespace Sys2Proof

/-- A 32-bit register or bus value (R9, R52). -/
abbrev Word := BitVec 32

/-- One byte of the serial stream (R30). -/
abbrev Byte := BitVec 8

/-- A byte offset inside a window; windows are at most 0x1000 bytes (R7, R72). -/
abbrev Offset := BitVec 12

/-- The 16-bit selector word of R72. -/
abbrev Selector := BitVec 16

end Sys2Proof
end

