-- ==== Sys2Proof/Config.lean ====
section
/-!
DEFINITION. The implementation parameters of R7. The spec gives none of their values, so each is a constant without a body:
no proof can see what it is.
-/

namespace Sys2Proof.Config

/-- `MAIN_OSC_HZ`, the oscillator frequency fixed at construction (R7, R34; D22, log 4). -/
opaque MAIN_OSC_HZ : Nat

/-- `BACKEND_ATTACHED`, fixed at construction (R7, R33; D15, log 4). -/
opaque BACKEND_ATTACHED : Bool

/-- `UART_BASE`, the base address of the UART window (R7, R51; D2, log 5). -/
opaque UART_BASE : Word

/-- `CLKC_BASE`, the base address of the CLKC window (R7, R51; D2, log 5). -/
opaque CLKC_BASE : Word

/-- `UART_WINDOW`, the size in bytes of the UART window (R7; D2, log 5). -/
opaque UART_WINDOW : Nat

/-- `CLKC_WINDOW`, the size in bytes of the CLKC window (R7; D2, log 5). -/
opaque CLKC_WINDOW : Nat

/-- `UART_IRQ`, the input of the host's interrupt controller that the sink is wired to (R7, R167). No rule reads it (log 26). -/
opaque UART_IRQ : Nat

/-- Where the host maps the two windows (R51). -/
structure MemoryMap where
  uartBase : Word
  uartWindow : Nat
  clkcBase : Word
  clkcWindow : Nat
  deriving DecidableEq, Repr

/-- The map the parameters of R7 give. -/
def memoryMap : MemoryMap :=
  { uartBase := UART_BASE, uartWindow := UART_WINDOW, clkcBase := CLKC_BASE, clkcWindow := CLKC_WINDOW }

end Sys2Proof.Config
end

