-- ==== Sys2Proof/Syntax.lean ====
section
/-!
DEFINITION. The operation set of the block (R70, R74, R75, R82): one constructor of `Instr` for each of the 56 rows of the
operation table, and the requests that the external agents present (R10, R57, R71, R72).
-/

namespace Sys2Proof

/-- The two peripherals as bus slaves (R71). -/
inductive BusUnit where
  | uart
  | clkc
  deriving DecidableEq, Repr

/-- The direction of a bus transaction (R71). -/
inductive Dir where
  | read
  | write
  deriving DecidableEq, Repr

/-- The three kinds of external agent (R57, R171). -/
inductive Agent where
  | busMaster
  | backend
  | resetControl
  deriving DecidableEq, Repr

/-- One operation on the block (R70). `v` is the 32-bit value written, `b` the byte received, `off` the window offset of a row
that catches "any other offset". -/
inductive Instr where
  /-- `UART.RD.DATA` (R100). -/
  | uartRdData
  /-- `UART.RD.DIVLO` (R101). -/
  | uartRdDivlo
  /-- `UART.RD.IER` (R102). -/
  | uartRdIer
  /-- `UART.RD.DIVHI` (R103). -/
  | uartRdDivhi
  /-- `UART.RD.IIR` (R104). -/
  | uartRdIir
  /-- `UART.RD.LCR` (R106). -/
  | uartRdLcr
  /-- `UART.RD.MCR` (R106). -/
  | uartRdMcr
  /-- `UART.RD.LSR` (R105). -/
  | uartRdLsr
  /-- `UART.RD.MSR` (R106). -/
  | uartRdMsr
  /-- `UART.RD.SCR` (R106). -/
  | uartRdScr
  /-- `UART.RD.OTHER` (R106). -/
  | uartRdOther (off : Offset)
  /-- `UART.WR.DATA` (R110). -/
  | uartWrData (v : Word)
  /-- `UART.WR.DIVLO` (R111). -/
  | uartWrDivlo (v : Word)
  /-- `UART.WR.IER` (R112). -/
  | uartWrIer (v : Word)
  /-- `UART.WR.DIVHI` (R113). -/
  | uartWrDivhi (v : Word)
  /-- `UART.WR.FCR` (R114). -/
  | uartWrFcr (v : Word)
  /-- `UART.WR.LCR` (R115). -/
  | uartWrLcr (v : Word)
  /-- `UART.WR.MCR` (R116). -/
  | uartWrMcr (v : Word)
  /-- `UART.WR.LSR` (R116). -/
  | uartWrLsr (v : Word)
  /-- `UART.WR.MSR` (R116). -/
  | uartWrMsr (v : Word)
  /-- `UART.WR.SCR` (R116). -/
  | uartWrScr (v : Word)
  /-- `UART.WR.OTHER` (R116). -/
  | uartWrOther (off : Offset) (v : Word)
  /-- `UART.RX` (R123). -/
  | uartRx (b : Byte)
  /-- `UART.CANRX` (R124). -/
  | uartCanrx
  /-- `UART.RESET` (R182). -/
  | uartReset
  /-- `UART.EVENT` (R125). -/
  | uartEvent
  /-- `CLKC.RD.PLL0CTL` (R133). -/
  | clkcRdPll0ctl
  /-- `CLKC.RD.PLL0CFG` (R132). -/
  | clkcRdPll0cfg
  /-- `CLKC.RD.PLL0STAT` (R134). -/
  | clkcRdPll0stat
  /-- `CLKC.RD.PLL0FEED` (R135). -/
  | clkcRdPll0feed
  /-- `CLKC.RD.PLL1_0` (R135). -/
  | clkcRdPll1_0
  /-- `CLKC.RD.PLL1_1` (R135). -/
  | clkcRdPll1_1
  /-- `CLKC.RD.PLL1_2` (R135). -/
  | clkcRdPll1_2
  /-- `CLKC.RD.PLL1_3` (R135). -/
  | clkcRdPll1_3
  /-- `CLKC.RD.CPUCLKDIV` (R130). -/
  | clkcRdCpuclkdiv
  /-- `CLKC.RD.USBCLK` (R135). -/
  | clkcRdUsbclk
  /-- `CLKC.RD.CLKSRC` (R131). -/
  | clkcRdClksrc
  /-- `CLKC.RD.PCLKSEL0` (R135). -/
  | clkcRdPclksel0
  /-- `CLKC.RD.PCLKSEL1` (R135). -/
  | clkcRdPclksel1
  /-- `CLKC.RD.CLKOUT` (R135). -/
  | clkcRdClkout
  /-- `CLKC.RD.OTHER` (R135). -/
  | clkcRdOther (off : Offset)
  /-- `CLKC.WR.PLL0CTL` (R139). -/
  | clkcWrPll0ctl (v : Word)
  /-- `CLKC.WR.PLL0CFG` (R138). -/
  | clkcWrPll0cfg (v : Word)
  /-- `CLKC.WR.PLL0STAT` (R141). -/
  | clkcWrPll0stat (v : Word)
  /-- `CLKC.WR.PLL0FEED` (R140). -/
  | clkcWrPll0feed (v : Word)
  /-- `CLKC.WR.PLL1_0` (R141). -/
  | clkcWrPll1_0 (v : Word)
  /-- `CLKC.WR.PLL1_1` (R141). -/
  | clkcWrPll1_1 (v : Word)
  /-- `CLKC.WR.PLL1_2` (R141). -/
  | clkcWrPll1_2 (v : Word)
  /-- `CLKC.WR.PLL1_3` (R141). -/
  | clkcWrPll1_3 (v : Word)
  /-- `CLKC.WR.CPUCLKDIV` (R136). -/
  | clkcWrCpuclkdiv (v : Word)
  /-- `CLKC.WR.USBCLK` (R141). -/
  | clkcWrUsbclk (v : Word)
  /-- `CLKC.WR.CLKSRC` (R137). -/
  | clkcWrClksrc (v : Word)
  /-- `CLKC.WR.PCLKSEL0` (R141). -/
  | clkcWrPclksel0 (v : Word)
  /-- `CLKC.WR.PCLKSEL1` (R141). -/
  | clkcWrPclksel1 (v : Word)
  /-- `CLKC.WR.CLKOUT` (R141). -/
  | clkcWrClkout (v : Word)
  /-- `CLKC.WR.OTHER` (R141). -/
  | clkcWrOther (off : Offset) (v : Word)
  deriving DecidableEq, Repr

/-- Which agent issues an operation (R57): the bus master every bus operation, the backend three of the UART's ports, the reset
control the fourth. -/
def Instr.agent : Instr → Agent
  | .uartRx _ => .backend
  | .uartCanrx => .backend
  | .uartEvent => .backend
  | .uartReset => .resetControl
  | .uartRdData => .busMaster
  | .uartRdDivlo => .busMaster
  | .uartRdIer => .busMaster
  | .uartRdDivhi => .busMaster
  | .uartRdIir => .busMaster
  | .uartRdLcr => .busMaster
  | .uartRdMcr => .busMaster
  | .uartRdLsr => .busMaster
  | .uartRdMsr => .busMaster
  | .uartRdScr => .busMaster
  | .uartRdOther _ => .busMaster
  | .uartWrData _ => .busMaster
  | .uartWrDivlo _ => .busMaster
  | .uartWrIer _ => .busMaster
  | .uartWrDivhi _ => .busMaster
  | .uartWrFcr _ => .busMaster
  | .uartWrLcr _ => .busMaster
  | .uartWrMcr _ => .busMaster
  | .uartWrLsr _ => .busMaster
  | .uartWrMsr _ => .busMaster
  | .uartWrScr _ => .busMaster
  | .uartWrOther _ _ => .busMaster
  | .clkcRdPll0ctl => .busMaster
  | .clkcRdPll0cfg => .busMaster
  | .clkcRdPll0stat => .busMaster
  | .clkcRdPll0feed => .busMaster
  | .clkcRdPll1_0 => .busMaster
  | .clkcRdPll1_1 => .busMaster
  | .clkcRdPll1_2 => .busMaster
  | .clkcRdPll1_3 => .busMaster
  | .clkcRdCpuclkdiv => .busMaster
  | .clkcRdUsbclk => .busMaster
  | .clkcRdClksrc => .busMaster
  | .clkcRdPclksel0 => .busMaster
  | .clkcRdPclksel1 => .busMaster
  | .clkcRdClkout => .busMaster
  | .clkcRdOther _ => .busMaster
  | .clkcWrPll0ctl _ => .busMaster
  | .clkcWrPll0cfg _ => .busMaster
  | .clkcWrPll0stat _ => .busMaster
  | .clkcWrPll0feed _ => .busMaster
  | .clkcWrPll1_0 _ => .busMaster
  | .clkcWrPll1_1 _ => .busMaster
  | .clkcWrPll1_2 _ => .busMaster
  | .clkcWrPll1_3 _ => .busMaster
  | .clkcWrCpuclkdiv _ => .busMaster
  | .clkcWrUsbclk _ => .busMaster
  | .clkcWrClksrc _ => .busMaster
  | .clkcWrPclksel0 _ => .busMaster
  | .clkcWrPclksel1 _ => .busMaster
  | .clkcWrClkout _ => .busMaster
  | .clkcWrOther _ _ => .busMaster

/-- The size of a host load or store (R55): 1, 2 or 4 bytes, and `wider` is any size above 32 bits. R10 leaves the byte counts of a host
access open; that there is no access of 3 bytes is the model's DESIGN CHOICE (log 33). -/
inductive AccessSize where
  | byte
  | halfword
  | word
  | wider
  deriving DecidableEq, Repr

/-- What an external agent presents to the block (R57, R58). -/
inductive Request where
  /-- A transaction word of R72: any operation of R70, as the agent that is wired to it presents it. -/
  | transaction (sel : Selector) (v : Word)
  /-- A load of the host's processor at a host address: `MemRead` of R10. -/
  | load (addr : Word) (size : AccessSize)
  /-- A store of the host's processor at a host address: `MemWrite` of R10. -/
  | store (addr : Word) (size : AccessSize) (v : Word)
  deriving DecidableEq, Repr

end Sys2Proof
end

