-- ==== Sys2Proof/WellFormed.lean ====
section
/-!
DEFINITION. Which terms of the syntax spell an operation. Only the four "any other offset" rows can be ill formed: their offset
must be none of the named offsets of their unit (R73 to R75). The map of the windows has the constraints of R7 and R51.
-/

namespace Sys2Proof

/-- The UART offsets that have rows of their own, in both directions (R74). -/
def uartNamedOffsets : List Offset :=
  [0x000, 0x004, 0x008, 0x00C, 0x010, 0x014, 0x018, 0x01C]

/-- The CLKC offsets that have rows of their own, in both directions (R75). -/
def clkcNamedOffsets : List Offset :=
  [0x080, 0x084, 0x088, 0x08C, 0x0A0, 0x0A4, 0x0A8, 0x0AC, 0x104, 0x108, 0x10C, 0x1A8, 0x1AC, 0x1C8]

/-- An operation of R70: a row for "any other offset" does not carry a named one. -/
def Instr.wf : Instr → Bool
  | .uartRdOther off => !uartNamedOffsets.contains off
  | .uartWrOther off _ => !uartNamedOffsets.contains off
  | .clkcRdOther off => !clkcNamedOffsets.contains off
  | .clkcWrOther off _ => !clkcNamedOffsets.contains off
  | .uartRdData => true
  | .uartRdDivlo => true
  | .uartRdIer => true
  | .uartRdDivhi => true
  | .uartRdIir => true
  | .uartRdLcr => true
  | .uartRdMcr => true
  | .uartRdLsr => true
  | .uartRdMsr => true
  | .uartRdScr => true
  | .uartWrData _ => true
  | .uartWrDivlo _ => true
  | .uartWrIer _ => true
  | .uartWrDivhi _ => true
  | .uartWrFcr _ => true
  | .uartWrLcr _ => true
  | .uartWrMcr _ => true
  | .uartWrLsr _ => true
  | .uartWrMsr _ => true
  | .uartWrScr _ => true
  | .uartRx _ => true
  | .uartCanrx => true
  | .uartReset => true
  | .uartEvent => true
  | .clkcRdPll0ctl => true
  | .clkcRdPll0cfg => true
  | .clkcRdPll0stat => true
  | .clkcRdPll0feed => true
  | .clkcRdPll1_0 => true
  | .clkcRdPll1_1 => true
  | .clkcRdPll1_2 => true
  | .clkcRdPll1_3 => true
  | .clkcRdCpuclkdiv => true
  | .clkcRdUsbclk => true
  | .clkcRdClksrc => true
  | .clkcRdPclksel0 => true
  | .clkcRdPclksel1 => true
  | .clkcRdClkout => true
  | .clkcWrPll0ctl _ => true
  | .clkcWrPll0cfg _ => true
  | .clkcWrPll0stat _ => true
  | .clkcWrPll0feed _ => true
  | .clkcWrPll1_0 _ => true
  | .clkcWrPll1_1 _ => true
  | .clkcWrPll1_2 _ => true
  | .clkcWrPll1_3 _ => true
  | .clkcWrCpuclkdiv _ => true
  | .clkcWrUsbclk _ => true
  | .clkcWrClksrc _ => true
  | .clkcWrPclksel0 _ => true
  | .clkcWrPclksel1 _ => true
  | .clkcWrClkout _ => true

/-- The constraints of R7 on bases and window sizes, and R51: the two windows do not overlap. -/
def Config.MemoryMap.wf (m : Config.MemoryMap) : Bool :=
  m.uartBase.toNat % 4 == 0 && m.clkcBase.toNat % 4 == 0 &&
  decide (0x20 ≤ m.uartWindow ∧ m.uartWindow ≤ 0x1000) &&
  decide (0x1CC ≤ m.clkcWindow ∧ m.clkcWindow ≤ 0x1000) &&
  decide (m.uartBase.toNat + m.uartWindow ≤ m.clkcBase.toNat ∨ m.clkcBase.toNat + m.clkcWindow ≤ m.uartBase.toNat)

end Sys2Proof
end

