-- ==== Sys2Proof/Decode.lean ====
section
/-!
DEFINITION. Decoding of transaction words (R72, R73), total and rejecting by name (R82), and the encoder written from the same
tables (R72, R74, R75). The rows are those of the operation table, in its priority order.
-/

namespace Sys2Proof

/-- Why a selector spells no operation (R82, I8). -/
inductive SelectorError where
  /-- `unit` = 3 is not used. -/
  | unitNotUsed
  /-- The latch-mode bit is 1 for the CLKC window or a side port. -/
  | latchBitOutsideUartWindow
  /-- A side port is called, never written. -/
  | portWritten
  /-- There are four side ports, 0 to 3. -/
  | noSuchPort
  deriving DecidableEq, Repr

/-- Bits [15:14] of a selector (R72): 0 UART window, 1 CLKC window, 2 UART side port. -/
def unitField (sel : Selector) : BitVec 2 := sel.extractLsb' 14 2

/-- Bit 13 of a selector (R72): the latch-mode bit. -/
def latchField (sel : Selector) : Bool := sel.getLsbD 13

/-- Bit 12 of a selector (R72): 1 for a write. -/
def writeField (sel : Selector) : Bool := sel.getLsbD 12

/-- Bits [11:0] of a selector (R72): the byte offset, or the port number. -/
def offsetField (sel : Selector) : Offset := sel.extractLsb' 0 12

/-- The selector with the given fields (R72). -/
def selectorOf (unit : BitVec 2) (latch write : Bool) (off : Offset) : Selector :=
  unit.setWidth 16 <<< 14 ||| (BitVec.ofBool latch).setWidth 16 <<< 13 ||| (BitVec.ofBool write).setWidth 16 <<< 12 |||
    off.setWidth 16

/-- One row of the operation table: the row is the operation of every selector with `sel &&& mask = bits` that no earlier row
takes (R73), and `build` makes the operation from the offset and the operand (R77). -/
structure Row where
  bits : Selector
  mask : Selector
  build : Offset → Word → Instr

/-- The UART reads (R74). -/
def uartReadRows : List Row :=
  [⟨0x0000, 0xFFFF, fun _ _ => .uartRdData⟩,
   ⟨0x2000, 0xFFFF, fun _ _ => .uartRdDivlo⟩,
   ⟨0x0004, 0xFFFF, fun _ _ => .uartRdIer⟩,
   ⟨0x2004, 0xFFFF, fun _ _ => .uartRdDivhi⟩,
   ⟨0x0008, 0xDFFF, fun _ _ => .uartRdIir⟩,
   ⟨0x000C, 0xDFFF, fun _ _ => .uartRdLcr⟩,
   ⟨0x0010, 0xDFFF, fun _ _ => .uartRdMcr⟩,
   ⟨0x0014, 0xDFFF, fun _ _ => .uartRdLsr⟩,
   ⟨0x0018, 0xDFFF, fun _ _ => .uartRdMsr⟩,
   ⟨0x001C, 0xDFFF, fun _ _ => .uartRdScr⟩,
   ⟨0x0000, 0xD000, fun off _ => .uartRdOther off⟩]

/-- The UART writes (R74). -/
def uartWriteRows : List Row :=
  [⟨0x1000, 0xFFFF, fun _ v => .uartWrData v⟩,
   ⟨0x3000, 0xFFFF, fun _ v => .uartWrDivlo v⟩,
   ⟨0x1004, 0xFFFF, fun _ v => .uartWrIer v⟩,
   ⟨0x3004, 0xFFFF, fun _ v => .uartWrDivhi v⟩,
   ⟨0x1008, 0xDFFF, fun _ v => .uartWrFcr v⟩,
   ⟨0x100C, 0xDFFF, fun _ v => .uartWrLcr v⟩,
   ⟨0x1010, 0xDFFF, fun _ v => .uartWrMcr v⟩,
   ⟨0x1014, 0xDFFF, fun _ v => .uartWrLsr v⟩,
   ⟨0x1018, 0xDFFF, fun _ v => .uartWrMsr v⟩,
   ⟨0x101C, 0xDFFF, fun _ v => .uartWrScr v⟩,
   ⟨0x1000, 0xD000, fun off v => .uartWrOther off v⟩]

/-- The UART side ports (R74). `UART.RX` keeps `b[7:0]` of its operand (R77). -/
def portRows : List Row :=
  [⟨0x8000, 0xFFFF, fun _ v => .uartRx (v.setWidth 8)⟩,
   ⟨0x8001, 0xFFFF, fun _ _ => .uartCanrx⟩,
   ⟨0x8002, 0xFFFF, fun _ _ => .uartReset⟩,
   ⟨0x8003, 0xFFFF, fun _ _ => .uartEvent⟩]

/-- The CLKC reads (R75). -/
def clkcReadRows : List Row :=
  [⟨0x4080, 0xFFFF, fun _ _ => .clkcRdPll0ctl⟩,
   ⟨0x4084, 0xFFFF, fun _ _ => .clkcRdPll0cfg⟩,
   ⟨0x4088, 0xFFFF, fun _ _ => .clkcRdPll0stat⟩,
   ⟨0x408C, 0xFFFF, fun _ _ => .clkcRdPll0feed⟩,
   ⟨0x40A0, 0xFFFF, fun _ _ => .clkcRdPll1_0⟩,
   ⟨0x40A4, 0xFFFF, fun _ _ => .clkcRdPll1_1⟩,
   ⟨0x40A8, 0xFFFF, fun _ _ => .clkcRdPll1_2⟩,
   ⟨0x40AC, 0xFFFF, fun _ _ => .clkcRdPll1_3⟩,
   ⟨0x4104, 0xFFFF, fun _ _ => .clkcRdCpuclkdiv⟩,
   ⟨0x4108, 0xFFFF, fun _ _ => .clkcRdUsbclk⟩,
   ⟨0x410C, 0xFFFF, fun _ _ => .clkcRdClksrc⟩,
   ⟨0x41A8, 0xFFFF, fun _ _ => .clkcRdPclksel0⟩,
   ⟨0x41AC, 0xFFFF, fun _ _ => .clkcRdPclksel1⟩,
   ⟨0x41C8, 0xFFFF, fun _ _ => .clkcRdClkout⟩,
   ⟨0x4000, 0xF000, fun off _ => .clkcRdOther off⟩]

/-- The CLKC writes (R75). -/
def clkcWriteRows : List Row :=
  [⟨0x5080, 0xFFFF, fun _ v => .clkcWrPll0ctl v⟩,
   ⟨0x5084, 0xFFFF, fun _ v => .clkcWrPll0cfg v⟩,
   ⟨0x5088, 0xFFFF, fun _ v => .clkcWrPll0stat v⟩,
   ⟨0x508C, 0xFFFF, fun _ v => .clkcWrPll0feed v⟩,
   ⟨0x50A0, 0xFFFF, fun _ v => .clkcWrPll1_0 v⟩,
   ⟨0x50A4, 0xFFFF, fun _ v => .clkcWrPll1_1 v⟩,
   ⟨0x50A8, 0xFFFF, fun _ v => .clkcWrPll1_2 v⟩,
   ⟨0x50AC, 0xFFFF, fun _ v => .clkcWrPll1_3 v⟩,
   ⟨0x5104, 0xFFFF, fun _ v => .clkcWrCpuclkdiv v⟩,
   ⟨0x5108, 0xFFFF, fun _ v => .clkcWrUsbclk v⟩,
   ⟨0x510C, 0xFFFF, fun _ v => .clkcWrClksrc v⟩,
   ⟨0x51A8, 0xFFFF, fun _ v => .clkcWrPclksel0 v⟩,
   ⟨0x51AC, 0xFFFF, fun _ v => .clkcWrPclksel1 v⟩,
   ⟨0x51C8, 0xFFFF, fun _ v => .clkcWrClkout v⟩,
   ⟨0x5000, 0xF000, fun off v => .clkcWrOther off v⟩]

/-- The operation table in decode priority order (R73, R82). -/
def operationRows : List Row :=
  uartReadRows ++ uartWriteRows ++ portRows ++ clkcReadRows ++ clkcWriteRows

/-- Whether a selector belongs to a row (R73). -/
def Row.covers (r : Row) (sel : Selector) : Bool := sel &&& r.mask == r.bits

/-- The name of the rule that a selector without a row breaks (R82). -/
def selectorError (sel : Selector) : SelectorError :=
  if unitField sel = 3 then .unitNotUsed
  else if latchField sel then .latchBitOutsideUartWindow
  else if writeField sel then .portWritten
  else .noSuchPort

/-- The operation a transaction word `(sel, v)` spells: the first row that covers `sel` (R73). Bits of `v` that the operation has
no use for are ignored (log 24). -/
def decode (sel : Selector) (v : Word) : Except SelectorError Instr :=
  match operationRows.find? (fun r => r.covers sel) with
  | some r => .ok (r.build (offsetField sel) v)
  | none => .error (selectorError sel)

/-- The selector of an operation (R74, R75). `latch` is the latch-mode bit at the time of the access (R72): it stands in the
selector of every UART window row whose `L` is `x`; the eight rows of offsets 0 and 4 have their own, and outside the UART
window the bit is 0. -/
def Instr.selector (latch : Bool) : Instr → Selector
  | .uartRdData => selectorOf 0 false false 0x000
  | .uartRdDivlo => selectorOf 0 true false 0x000
  | .uartRdIer => selectorOf 0 false false 0x004
  | .uartRdDivhi => selectorOf 0 true false 0x004
  | .uartRdIir => selectorOf 0 latch false 0x008
  | .uartRdLcr => selectorOf 0 latch false 0x00C
  | .uartRdMcr => selectorOf 0 latch false 0x010
  | .uartRdLsr => selectorOf 0 latch false 0x014
  | .uartRdMsr => selectorOf 0 latch false 0x018
  | .uartRdScr => selectorOf 0 latch false 0x01C
  | .uartRdOther off => selectorOf 0 latch false off
  | .uartWrData _ => selectorOf 0 false true 0x000
  | .uartWrDivlo _ => selectorOf 0 true true 0x000
  | .uartWrIer _ => selectorOf 0 false true 0x004
  | .uartWrDivhi _ => selectorOf 0 true true 0x004
  | .uartWrFcr _ => selectorOf 0 latch true 0x008
  | .uartWrLcr _ => selectorOf 0 latch true 0x00C
  | .uartWrMcr _ => selectorOf 0 latch true 0x010
  | .uartWrLsr _ => selectorOf 0 latch true 0x014
  | .uartWrMsr _ => selectorOf 0 latch true 0x018
  | .uartWrScr _ => selectorOf 0 latch true 0x01C
  | .uartWrOther off _ => selectorOf 0 latch true off
  | .uartRx _ => selectorOf 2 false false 0x000
  | .uartCanrx => selectorOf 2 false false 0x001
  | .uartReset => selectorOf 2 false false 0x002
  | .uartEvent => selectorOf 2 false false 0x003
  | .clkcRdPll0ctl => selectorOf 1 false false 0x080
  | .clkcRdPll0cfg => selectorOf 1 false false 0x084
  | .clkcRdPll0stat => selectorOf 1 false false 0x088
  | .clkcRdPll0feed => selectorOf 1 false false 0x08C
  | .clkcRdPll1_0 => selectorOf 1 false false 0x0A0
  | .clkcRdPll1_1 => selectorOf 1 false false 0x0A4
  | .clkcRdPll1_2 => selectorOf 1 false false 0x0A8
  | .clkcRdPll1_3 => selectorOf 1 false false 0x0AC
  | .clkcRdCpuclkdiv => selectorOf 1 false false 0x104
  | .clkcRdUsbclk => selectorOf 1 false false 0x108
  | .clkcRdClksrc => selectorOf 1 false false 0x10C
  | .clkcRdPclksel0 => selectorOf 1 false false 0x1A8
  | .clkcRdPclksel1 => selectorOf 1 false false 0x1AC
  | .clkcRdClkout => selectorOf 1 false false 0x1C8
  | .clkcRdOther off => selectorOf 1 false false off
  | .clkcWrPll0ctl _ => selectorOf 1 false true 0x080
  | .clkcWrPll0cfg _ => selectorOf 1 false true 0x084
  | .clkcWrPll0stat _ => selectorOf 1 false true 0x088
  | .clkcWrPll0feed _ => selectorOf 1 false true 0x08C
  | .clkcWrPll1_0 _ => selectorOf 1 false true 0x0A0
  | .clkcWrPll1_1 _ => selectorOf 1 false true 0x0A4
  | .clkcWrPll1_2 _ => selectorOf 1 false true 0x0A8
  | .clkcWrPll1_3 _ => selectorOf 1 false true 0x0AC
  | .clkcWrCpuclkdiv _ => selectorOf 1 false true 0x104
  | .clkcWrUsbclk _ => selectorOf 1 false true 0x108
  | .clkcWrClksrc _ => selectorOf 1 false true 0x10C
  | .clkcWrPclksel0 _ => selectorOf 1 false true 0x1A8
  | .clkcWrPclksel1 _ => selectorOf 1 false true 0x1AC
  | .clkcWrClkout _ => selectorOf 1 false true 0x1C8
  | .clkcWrOther off _ => selectorOf 1 false true off

/-- The 32-bit operand of an operation (R72): the written value, or the received byte zero-extended, or 0 where there is none. -/
def Instr.operand : Instr → Word
  | .uartRdData => 0
  | .uartRdDivlo => 0
  | .uartRdIer => 0
  | .uartRdDivhi => 0
  | .uartRdIir => 0
  | .uartRdLcr => 0
  | .uartRdMcr => 0
  | .uartRdLsr => 0
  | .uartRdMsr => 0
  | .uartRdScr => 0
  | .uartRdOther _ => 0
  | .uartWrData v => v
  | .uartWrDivlo v => v
  | .uartWrIer v => v
  | .uartWrDivhi v => v
  | .uartWrFcr v => v
  | .uartWrLcr v => v
  | .uartWrMcr v => v
  | .uartWrLsr v => v
  | .uartWrMsr v => v
  | .uartWrScr v => v
  | .uartWrOther _ v => v
  | .uartRx b => b.setWidth 32
  | .uartCanrx => 0
  | .uartReset => 0
  | .uartEvent => 0
  | .clkcRdPll0ctl => 0
  | .clkcRdPll0cfg => 0
  | .clkcRdPll0stat => 0
  | .clkcRdPll0feed => 0
  | .clkcRdPll1_0 => 0
  | .clkcRdPll1_1 => 0
  | .clkcRdPll1_2 => 0
  | .clkcRdPll1_3 => 0
  | .clkcRdCpuclkdiv => 0
  | .clkcRdUsbclk => 0
  | .clkcRdClksrc => 0
  | .clkcRdPclksel0 => 0
  | .clkcRdPclksel1 => 0
  | .clkcRdClkout => 0
  | .clkcRdOther _ => 0
  | .clkcWrPll0ctl v => v
  | .clkcWrPll0cfg v => v
  | .clkcWrPll0stat v => v
  | .clkcWrPll0feed v => v
  | .clkcWrPll1_0 v => v
  | .clkcWrPll1_1 v => v
  | .clkcWrPll1_2 v => v
  | .clkcWrPll1_3 v => v
  | .clkcWrCpuclkdiv v => v
  | .clkcWrUsbclk v => v
  | .clkcWrClksrc v => v
  | .clkcWrPclksel0 v => v
  | .clkcWrPclksel1 v => v
  | .clkcWrClkout v => v
  | .clkcWrOther _ v => v

/-- The transaction word of an operation (R72). -/
def encode (latch : Bool) (i : Instr) : Selector × Word := (i.selector latch, i.operand)

/-- The operation that the decoder reads from an operation-table word: the selector is bits [15:0], the operand bits [47:16], and
every bit from `nbits` on is 0. -/
def decodeTableWord (nbits w : Nat) : Option Instr :=
  let bits := w % 2 ^ nbits
  match decode (BitVec.ofNat 16 bits) (BitVec.ofNat 32 (bits / 2 ^ 16)) with
  | .ok i => some i
  | .error _ => none

end Sys2Proof
end

