-- ==== Sys2Proof/Machine/Constants.lean ====
section
/-!
DEFINITION. The constants of R8, by the spec's own names, and the construction values that the spec gives as numbers (R44, R180).
The source gives numbers for `LCR_DLAB`, `LSR_RDR` and `FALLBACK_HZ` only. The other masks and codes are decisions of the spec
(D4, D5, D6, D7, D17, D18; log 8, log 9).
-/

namespace Sys2Proof.Machine

/-- Bit 7 of line-control: latch-access mode (R8, R28). -/
def LCR_DLAB : Word := 0x00000080

/-- Bit 0 of line-status: receive-data-ready (R8, R29). -/
def LSR_RDR : Word := 0x00000001

/-- Bit 5 of line-status: transmit-empty (R8, R29; D6). -/
def LSR_TXE : Word := 0x00000020

/-- Receive-data-available enable (R8, R25; D4). -/
def IER_RDA_EN : Word := 0x00000001

/-- Transmit-holding-empty enable (R8, R25; D4). -/
def IER_THRE_EN : Word := 0x00000002

/-- The "no-interrupt" bit (R8, R26; D5). -/
def IIR_NOINT : Word := 0x00000001

/-- The transmit-pending bits (R8, R26; D5). -/
def IIR_THRE_PENDING : Word := 0x00000002

/-- The receive-pending bit (R8, R26; D5). -/
def IIR_RX_PENDING : Word := 0x00000004

/-- The register value "no interrupt pending" (R8, R26; D5). -/
def IIR_IDLE : Word := 0x00000001

/-- The fixed "all three PLLs locked" pattern (R8, R134; D18). -/
def PLL0STAT_FIXED : Word := 0x07000000

/-- Clock source "Internal" (R8, R146). -/
def CLKSRC_INTERNAL : BitVec 2 := 0

/-- Clock source "Main-Oscillator" (R8, R146; D17). -/
def CLKSRC_MAIN_OSC : BitVec 2 := 1

/-- Clock source "RTC" (R8, R146; D17). -/
def CLKSRC_RTC : BitVec 2 := 2

/-- The clock scale of every source but Internal (R8, R146). -/
def FALLBACK_HZ : Nat := 100000000

/-- The width of a divisor latch (R8, R23; D7, log 9). -/
abbrev DIV_LATCH_BITS : Nat := 16

/-- A divisor latch (R23, R24). -/
abbrev Latch := BitVec DIV_LATCH_BITS

/-- `divisorLow` after construction and after reset (R23; D7, log 9). -/
def DIVISOR_LOW_DEFAULT : Latch := 1

/-- `divisorHigh` after construction and after reset (R24; D7, log 9). -/
def DIVISOR_HIGH_DEFAULT : Latch := 0

/-- `fifoControl` after construction (R27; D9, log 11). -/
def FIFO_CONTROL_CONSTRUCTED : Word := 0

/-- `lineControl` after construction (R28; D9, log 11). -/
def LINE_CONTROL_CONSTRUCTED : Word := 0

end Sys2Proof.Machine
end

