-- ==== Sys2Proof/Machine/State.lean ====
section
/-!
DEFINITION. The state of the block, `S = (U, C, Out, halted)` (R20), the requests its environment presents, the reasons a step can
stop, and the state after construction (R44, R180, R181).
-/

namespace Sys2Proof.Machine

/-- The fatal "unsupported offset" error `Fatal(unit, dir, off)` (R10, R160). -/
structure FatalError where
  unit : BusUnit
  dir : Dir
  off : Offset
  deriving DecidableEq, Repr

/-- An advisory diagnostic (R40, R150, R161; log 18). -/
inductive Diag where
  /-- The fatal error names the direction and the offset (R161). -/
  | unsupportedOffset (e : FatalError)
  /-- A recompute with a source other than Internal names the source (R150). -/
  | unsupportedClockSource (src : BitVec 2)
  deriving DecidableEq, Repr

/-- The outcome of the last operation, as its issuer sees it (R12, R90; log 2). -/
inductive Response where
  /-- No operation has been performed yet. -/
  | none
  /-- `value(v)` of a bus read. -/
  | value (v : Word)
  /-- `value(b)` of the readiness query. -/
  | ready (b : Bool)
  /-- `done`. -/
  | done
  /-- `fault(Fatal(unit, dir, off))`. -/
  | fatal (e : FatalError)
  deriving DecidableEq, Repr

/-- The UART state `U` (R23 to R30, R33). -/
structure Uart where
  divisorLow : Latch
  divisorHigh : Latch
  interruptEnable : Word
  interruptIdentification : Word
  fifoControl : Word
  lineControl : Word
  lineStatus : Word
  receiveBuffer : Byte
  backendAttached : Bool
  deriving DecidableEq, Repr

/-- The clock-controller state `C` (R34 to R38). -/
structure Clkc where
  mainOscillatorHz : Nat
  cpuClockDivideConfig : Word
  clockSourceSelect : Word
  pll0Config : Word
  pll0Control : Word
  deriving DecidableEq, Repr

/-- The outputs `Out` (R32, R39, R40). `published` is the sequence of values published so far, of which `clockScale` is the last
(R62). -/
structure Outputs where
  tx : List Byte
  irq : Nat
  clockScale : Option Nat
  published : List Nat
  diag : List Diag
  deriving DecidableEq, Repr

/-- The whole state (R20, R41). `response` and `pending` are the model's own (log 1, log 2): what the last operation answered, and
what the agents present, oldest first. -/
structure State where
  uart : Uart
  clkc : Clkc
  out : Outputs
  halted : Option FatalError
  response : Response
  pending : List Request
  deriving DecidableEq, Repr

/-- Why the machine has no step: a stuck state of the spec. -/
inductive Fault where
  /-- Raised by every step and every operation after a fatal access: "no operation on either unit has a step" (R41, R162). Safe:
  nothing is claimed of the stopped machine but that it stays stopped. -/
  | fatal (e : FatalError)
  /-- Raised by `UART.RX`, `UART.CANRX` and `UART.EVENT` with no backend attached: "these operations have no step" (R126). Safe:
  nothing calls them then. -/
  | noBackend
  deriving DecidableEq, Repr

/-- Why a request is turned away before it reaches the block: no behaviour is claimed. -/
inductive Refusal where
  /-- Raised by `exec` for an instruction without a meaning. Safe. -/
  | notModelled (mnemonic : String)
  /-- Raised by the fetch for a selector that spells no operation (R82, I8). Safe. -/
  | undecodable (e : SelectorError)
  /-- Raised by the fetch for a host access wider than 32 bits (R55, I6). Safe. -/
  | accessTooWide
  /-- Raised by the fetch for a host address in neither window, which is never presented to the block (R51). Safe. -/
  | addressOutsideWindows
  /-- Raised by the fetch for a host access when the parameters break R7's constraints (R185). Safe. -/
  | memoryMapIllFormed
  deriving DecidableEq, Repr

/-- The UART after construction (R44, R180). -/
def Uart.construct (attached : Bool) : Uart where
  divisorLow := DIVISOR_LOW_DEFAULT
  divisorHigh := DIVISOR_HIGH_DEFAULT
  interruptEnable := 0
  interruptIdentification := IIR_IDLE
  fifoControl := FIFO_CONTROL_CONSTRUCTED
  lineControl := LINE_CONTROL_CONSTRUCTED
  lineStatus := LSR_TXE
  receiveBuffer := 0
  backendAttached := attached

/-- The clock controller after construction (R44, R181). -/
def Clkc.construct (hz : Nat) : Clkc where
  mainOscillatorHz := hz
  cpuClockDivideConfig := 0
  clockSourceSelect := 0
  pll0Config := 0
  pll0Control := 0

/-- The block after construction with the given parameters (R44, R180, R181), before anything is presented to it. -/
def State.construct (hz : Nat) (attached : Bool) : State where
  uart := Uart.construct attached
  clkc := Clkc.construct hz
  out := { tx := [], irq := 0, clockScale := .none, published := [], diag := [] }
  halted := .none
  response := .none
  pending := []

/-- The machine right after construction, with the parameters of R7 (log 4). -/
def State.reset : State := State.construct Config.MAIN_OSC_HZ Config.BACKEND_ATTACHED

end Sys2Proof.Machine
end

