-- ==== Sys2Proof/Machine/Operands.lean ====
section
/-!
DEFINITION. Operand assembly (R77): which bits of a written value an operation keeps, how a narrow field is widened, the fields of
the clock registers (R145), and the host's view of narrower accesses (R53, R55).
-/

namespace Sys2Proof.Machine

/-- `v[7:0]` (R77): the byte a data write transmits. -/
def lowByte (v : Word) : Byte := v.setWidth 8

/-- The low `DIV_LATCH_BITS` bits, `v[15:0]` (R77; D7): what a divisor-latch write stores. -/
def lowLatch (v : Word) : Latch := v.setWidth DIV_LATCH_BITS

/-- `zext_32` of the receive buffer (R10, R77; D30). -/
def widenByte (b : Byte) : Word := b.setWidth 32

/-- `zext_32` of a divisor latch (R10, R77; D30). -/
def widenLatch (d : Latch) : Word := d.setWidth 32

/-- `src = C.clockSourceSelect[1:0]` (R145). -/
def Clkc.source (c : Clkc) : BitVec 2 := c.clockSourceSelect.extractLsb' 0 2

/-- `M = C.pll0Config[15:0]` (R145). -/
def Clkc.multiplierM (c : Clkc) : Nat := (c.pll0Config.extractLsb' 0 16).toNat

/-- `N = C.pll0Config[31:16]` (R145). -/
def Clkc.dividerN (c : Clkc) : Nat := (c.pll0Config.extractLsb' 16 16).toNat

/-- `div8 = C.cpuClockDivideConfig[7:0]` (R145). -/
def Clkc.div8 (c : Clkc) : Nat := (c.cpuClockDivideConfig.extractLsb' 0 8).toNat

/-- Byte lane `k` of a register value: bits `[8k+7 : 8k]` (R53; D3, log 19). -/
def byteLane (k : Nat) (v : Word) : Byte := v.extractLsb' (8 * k) 8

/-- The low bits of a 32-bit value that an access of the given size keeps (R55; D1, log 19). -/
def keepLow (size : AccessSize) (v : Word) : Word :=
  match size with
  | .byte => (byteLane 0 v).setWidth 32
  | .halfword => (byteLane 1 v ++ byteLane 0 v : BitVec 16).setWidth 32
  | .word => v
  | .wider => v

/-- What the host takes from the answer to a load of the given size (R55). -/
def hostView (size : AccessSize) (r : Response) : Response :=
  match r with
  | .value v => .value (keepLow size v)
  | .none => .none
  | .ready b => .ready b
  | .done => .done
  | .fatal e => .fatal e

end Sys2Proof.Machine
end

