-- ==== Sys2Proof/Machine/Flags.lean ====
section
/-!
DEFINITION. The status flags of the block (R42): bit tests and updates, latch mode (R28), the readiness of the receive buffer
(R124), the three steps of a data write (R110) and the interrupt condition (R120).
-/

namespace Sys2Proof.Machine

/-- Some bit of `mask` is set in `v`: `(v & mask) != 0`. -/
def anySet (v mask : Word) : Bool := v &&& mask != 0

/-- `v | mask`. -/
def setBits (v mask : Word) : Word := v ||| mask

/-- `v & ~mask`. -/
def clearBits (v mask : Word) : Word := v &&& ~~~mask

/-- `latch_on`: latch-access mode (R28, R76). -/
def Uart.latchOn (u : Uart) : Bool := anySet u.lineControl LCR_DLAB

/-- Receive-data-ready (R29). -/
def Uart.dataReady (u : Uart) : Bool := anySet u.lineStatus LSR_RDR

/-- The answer of the readiness query (R124): a plain test of the ready bit. -/
def Uart.canReceive (u : Uart) : Bool := !u.dataReady

/-- `IrqCond(U)`, the derived interrupt level (R31, R120). -/
def Uart.irqCond (u : Uart) : Bool :=
  (anySet u.interruptEnable IER_RDA_EN && anySet u.interruptIdentification IIR_RX_PENDING) ||
  (anySet u.interruptEnable IER_THRE_EN && anySet u.interruptIdentification IIR_THRE_PENDING)

/-- Step 1 of a data write: set the transmit-pending bits (R110). -/
def threPendingSet (iir : Word) : Word := setBits iir IIR_THRE_PENDING

/-- Step 2 of a data write: clear the "no-interrupt" bit (R110). -/
def noIntCleared (iir : Word) : Word := clearBits iir IIR_NOINT

/-- Step 3 of a data write: clear the transmit-pending bits again (R110). -/
def threPendingCleared (iir : Word) : Word := clearBits iir IIR_THRE_PENDING

/-- The three steps in the documented order (R110). -/
def afterDataWrite (iir : Word) : Word := threPendingCleared (noIntCleared (threPendingSet iir))

end Sys2Proof.Machine
end

