-- ==== Sys2Proof/Machine/Ops.lean ====
section
/-!
DEFINITION. The operations the meanings share: when an operation has a step (R41, R126), its answer (R12), the outputs (R10, R32,
R39, R40), the fatal error (R94, R162), `IrqRecompute` (R121) and `ClkRecompute` (R149), and the two slaves' answers to an offset
with nothing behind it (R78, R97).
-/

namespace Sys2Proof.Machine

/-- An operation with effect `effect`. Once the block is halted it has no step (R41, R162). -/
def operate (effect : State → State) (s : State) : Host.Outcome State Fault Refusal :=
  match s.halted with
  | some e => .fault (.fatal e)
  | none => .next (effect s)

/-- A call of the byte-stream backend: without a backend it has no step (R126; log 6). -/
def backendCall (effect : State → State) (s : State) : Host.Outcome State Fault Refusal :=
  match s.halted, s.uart.backendAttached with
  | some e, _ => .fault (.fatal e)
  | none, false => .fault .noBackend
  | none, true => .next (effect s)

/-- `value(v)` (R12). -/
def answer (v : Word) (s : State) : State := { s with response := .value v }

/-- `done` (R12). -/
def complete (s : State) : State := { s with response := .done }

/-- Replace the UART state. -/
def withUart (u : Uart) (s : State) : State := { s with uart := u }

/-- Replace the clock-controller state. -/
def withClkc (c : Clkc) (s : State) : State := { s with clkc := c }

/-- `emit Tx(b)` (R10, R32). -/
def emitTx (b : Byte) (s : State) : State := { s with out := { s.out with tx := s.out.tx ++ [b] } }

/-- `emit IrqPulse` (R10, R32; D12, log 14). -/
def emitIrqPulse (s : State) : State := { s with out := { s.out with irq := s.out.irq + 1 } }

/-- `emit ClockScale(v)`: one publication (R10, R39, R149). -/
def emitClockScale (v : Nat) (s : State) : State :=
  { s with out := { s.out with clockScale := some v, published := s.out.published ++ [v] } }

/-- `emit Diag(d)` (R10, R40). -/
def emitDiag (d : Diag) (s : State) : State := { s with out := { s.out with diag := s.out.diag ++ [d] } }

/-- `SourceName(src)` (R150; D17). -/
def sourceName (src : BitVec 2) : String :=
  if src = CLKSRC_MAIN_OSC then "Main-Oscillator"
  else if src = CLKSRC_RTC then "RTC"
  else if src = CLKSRC_INTERNAL then "Internal"
  else "unknown (3)"

/-- The advisory text of a diagnostic (R149, R161): the wording is free (D21, log 18). -/
def Diag.text : Diag → String
  | .unsupportedOffset e =>
    (match e.unit with | .uart => "UART " | .clkc => "CLKC ") ++
    (match e.dir with | .read => "read" | .write => "write") ++
    ": unsupported offset " ++ toString e.off.toNat
  | .unsupportedClockSource src => "unsupported clock source: " ++ sourceName src

/-- `raise Fatal(unit, dir, off)` (R10, R94, R161, R162): the access is the last thing the block does. It sets `halted`, adds the
diagnostic and answers with the fault; nothing else changes (log 3). -/
def raiseFatal (unit : BusUnit) (dir : Dir) (off : Offset) (s : State) : State :=
  let e : FatalError := { unit := unit, dir := dir, off := off }
  { emitDiag (.unsupportedOffset e) s with halted := some e, response := .fatal e }

/-- The UART's access to an offset with no operation behind it (R78, R97). -/
def uartUnsupported (dir : Dir) (off : Offset) : State → State := raiseFatal .uart dir off

/-- The CLKC's read of an offset with no register behind it: 0 (R78, R97, R135). -/
def clkcReadsZero : State → State := answer 0

/-- The CLKC's write of an offset with no register behind it: ignored (R78, R97, R141). -/
def clkcIgnores : State → State := complete

/-- `IrqRecompute()` (R121): a true condition gives one pulse, a false one no event. -/
def irqRecompute (s : State) : State := if s.uart.irqCond then emitIrqPulse s else s

/-- `ClkValue(C)` (R147), over natural numbers without wrap-around (R148; D19, log 16). -/
def clkValue (c : Clkc) : Nat :=
  if c.source = CLKSRC_INTERNAL then
    (2 * (c.multiplierM + 1) * c.mainOscillatorHz) / (c.dividerN + 1) / (c.div8 + 1)
  else FALLBACK_HZ

/-- `ClkRecompute()` (R149). -/
def clkRecompute (s : State) : State :=
  if s.clkc.source = CLKSRC_INTERNAL then emitClockScale (clkValue s.clkc) s
  else emitClockScale FALLBACK_HZ (emitDiag (.unsupportedClockSource s.clkc.source) s)

/-- A store to one of the four CLKC registers: store, then recompute and publish (R136 to R139, R151). -/
def clkcStore (c : Clkc) (s : State) : State := complete (clkRecompute (withClkc c s))

end Sys2Proof.Machine
end

