-- ==== Sys2Proof/Machine/ClkcRead.lean ====
section
/-!
DEFINITION. The clock-controller reads (R130 to R135). None has a side effect and none recomputes.
-/

namespace Sys2Proof.Machine

/-- `CLKC.RD.PLL0CTL` (R133). -/
def execClkcRdPll0ctl (s : State) : Host.Outcome State Fault Refusal :=
  operate (fun s => answer s.clkc.pll0Control s) s

/-- `CLKC.RD.PLL0CFG` (R132). -/
def execClkcRdPll0cfg (s : State) : Host.Outcome State Fault Refusal :=
  operate (fun s => answer s.clkc.pll0Config s) s

/-- `CLKC.RD.CPUCLKDIV` (R130). -/
def execClkcRdCpuclkdiv (s : State) : Host.Outcome State Fault Refusal :=
  operate (fun s => answer s.clkc.cpuClockDivideConfig s) s

/-- `CLKC.RD.CLKSRC` (R131). -/
def execClkcRdClksrc (s : State) : Host.Outcome State Fault Refusal :=
  operate (fun s => answer s.clkc.clockSourceSelect s) s

/-- `CLKC.RD.PLL0STAT` (R134): the fixed pattern. -/
def execClkcRdPll0stat (s : State) : Host.Outcome State Fault Refusal := operate (answer PLL0STAT_FIXED) s

/-- `CLKC.RD.PLL0FEED` (R135). -/
def execClkcRdPll0feed (s : State) : Host.Outcome State Fault Refusal := operate clkcReadsZero s

/-- `CLKC.RD.PLL1_0` (R135). -/
def execClkcRdPll1_0 (s : State) : Host.Outcome State Fault Refusal := operate clkcReadsZero s

/-- `CLKC.RD.PLL1_1` (R135). -/
def execClkcRdPll1_1 (s : State) : Host.Outcome State Fault Refusal := operate clkcReadsZero s

/-- `CLKC.RD.PLL1_2` (R135). -/
def execClkcRdPll1_2 (s : State) : Host.Outcome State Fault Refusal := operate clkcReadsZero s

/-- `CLKC.RD.PLL1_3` (R135). -/
def execClkcRdPll1_3 (s : State) : Host.Outcome State Fault Refusal := operate clkcReadsZero s

/-- `CLKC.RD.USBCLK` (R135). -/
def execClkcRdUsbclk (s : State) : Host.Outcome State Fault Refusal := operate clkcReadsZero s

/-- `CLKC.RD.PCLKSEL0` (R135). -/
def execClkcRdPclksel0 (s : State) : Host.Outcome State Fault Refusal := operate clkcReadsZero s

/-- `CLKC.RD.PCLKSEL1` (R135). -/
def execClkcRdPclksel1 (s : State) : Host.Outcome State Fault Refusal := operate clkcReadsZero s

/-- `CLKC.RD.CLKOUT` (R135). -/
def execClkcRdClkout (s : State) : Host.Outcome State Fault Refusal := operate clkcReadsZero s

/-- `CLKC.RD.OTHER` (R135). -/
def execClkcRdOther (_off : Offset) (s : State) : Host.Outcome State Fault Refusal := operate clkcReadsZero s

end Sys2Proof.Machine
end

