-- ==== Sys2Proof/Machine/ClkcWrite.lean ====
section
/-!
DEFINITION. The clock-controller writes (R136 to R141). The four stores recompute and publish; every other write is ignored.
-/

namespace Sys2Proof.Machine

/-- `CLKC.WR.PLL0CTL` (R139). -/
def execClkcWrPll0ctl (v : Word) (s : State) : Host.Outcome State Fault Refusal :=
  operate (fun s => clkcStore { s.clkc with pll0Control := v } s) s

/-- `CLKC.WR.PLL0CFG` (R138). -/
def execClkcWrPll0cfg (v : Word) (s : State) : Host.Outcome State Fault Refusal :=
  operate (fun s => clkcStore { s.clkc with pll0Config := v } s) s

/-- `CLKC.WR.CPUCLKDIV` (R136). -/
def execClkcWrCpuclkdiv (v : Word) (s : State) : Host.Outcome State Fault Refusal :=
  operate (fun s => clkcStore { s.clkc with cpuClockDivideConfig := v } s) s

/-- `CLKC.WR.CLKSRC` (R137). -/
def execClkcWrClksrc (v : Word) (s : State) : Host.Outcome State Fault Refusal :=
  operate (fun s => clkcStore { s.clkc with clockSourceSelect := v } s) s

/-- `CLKC.WR.PLL0FEED` (R140): accepted, no effect, no recompute. -/
def execClkcWrPll0feed (_v : Word) (s : State) : Host.Outcome State Fault Refusal := operate clkcIgnores s

/-- `CLKC.WR.PLL0STAT` (R141). -/
def execClkcWrPll0stat (_v : Word) (s : State) : Host.Outcome State Fault Refusal := operate clkcIgnores s

/-- `CLKC.WR.PLL1_0` (R141). -/
def execClkcWrPll1_0 (_v : Word) (s : State) : Host.Outcome State Fault Refusal := operate clkcIgnores s

/-- `CLKC.WR.PLL1_1` (R141). -/
def execClkcWrPll1_1 (_v : Word) (s : State) : Host.Outcome State Fault Refusal := operate clkcIgnores s

/-- `CLKC.WR.PLL1_2` (R141). -/
def execClkcWrPll1_2 (_v : Word) (s : State) : Host.Outcome State Fault Refusal := operate clkcIgnores s

/-- `CLKC.WR.PLL1_3` (R141). -/
def execClkcWrPll1_3 (_v : Word) (s : State) : Host.Outcome State Fault Refusal := operate clkcIgnores s

/-- `CLKC.WR.USBCLK` (R141). -/
def execClkcWrUsbclk (_v : Word) (s : State) : Host.Outcome State Fault Refusal := operate clkcIgnores s

/-- `CLKC.WR.PCLKSEL0` (R141). -/
def execClkcWrPclksel0 (_v : Word) (s : State) : Host.Outcome State Fault Refusal := operate clkcIgnores s

/-- `CLKC.WR.PCLKSEL1` (R141). -/
def execClkcWrPclksel1 (_v : Word) (s : State) : Host.Outcome State Fault Refusal := operate clkcIgnores s

/-- `CLKC.WR.CLKOUT` (R141). -/
def execClkcWrClkout (_v : Word) (s : State) : Host.Outcome State Fault Refusal := operate clkcIgnores s

/-- `CLKC.WR.OTHER` (R141). -/
def execClkcWrOther (_off : Offset) (_v : Word) (s : State) : Host.Outcome State Fault Refusal := operate clkcIgnores s

end Sys2Proof.Machine
end

