-- ==== Sys2Proof/Machine/UartPort.lean ====
section
/-!
DEFINITION. The UART's side ports (R123 to R127, R182).
-/

namespace Sys2Proof.Machine

/-- `UART.RX(b)`, ingress of one byte (R123). It is total: a byte still waiting is overwritten (R127; D16, log 7). -/
def execUartRx (b : Byte) (s : State) : Host.Outcome State Fault Refusal :=
  backendCall (fun s => complete (irqRecompute (withUart
    { s.uart with
      receiveBuffer := b
      lineStatus := setBits s.uart.lineStatus LSR_RDR
      interruptIdentification := setBits s.uart.interruptIdentification IIR_RX_PENDING } s))) s

/-- `UART.CANRX()`, the ingress-readiness query (R124). -/
def execUartCanrx (s : State) : Host.Outcome State Fault Refusal :=
  backendCall (fun s => { s with response := .ready s.uart.canReceive }) s

/-- The six defaults that `UART.RESET()` restores (R182); `fifoControl` and `lineControl` are not among them (D9, log 11). -/
def Uart.restoreDefaults (u : Uart) : Uart :=
  { u with
    divisorLow := DIVISOR_LOW_DEFAULT
    divisorHigh := DIVISOR_HIGH_DEFAULT
    interruptEnable := 0
    interruptIdentification := IIR_IDLE
    lineStatus := LSR_TXE
    receiveBuffer := 0 }

/-- `UART.RESET()` (R182): outputs and CLKC are untouched (D32, log 23; D25, log 22). -/
def execUartReset (s : State) : Host.Outcome State Fault Refusal :=
  operate (fun s => complete (withUart s.uart.restoreDefaults s)) s

/-- `UART.EVENT()`, the connection-event notifier: nothing (R125). -/
def execUartEvent (s : State) : Host.Outcome State Fault Refusal := backendCall complete s

end Sys2Proof.Machine
end

