-- ==== Sys2Proof/Machine/UartRead.lean ====
section
/-!
DEFINITION. The UART reads (R100 to R106).
-/

namespace Sys2Proof.Machine

/-- `UART.RD.DATA` (R100). -/
def execUartRdData (s : State) : Host.Outcome State Fault Refusal :=
  operate (fun s => answer (widenByte s.uart.receiveBuffer) (withUart
    { s.uart with
      lineStatus := clearBits s.uart.lineStatus LSR_RDR
      interruptIdentification := clearBits s.uart.interruptIdentification IIR_RX_PENDING } s)) s

/-- `UART.RD.DIVLO` (R101): the latch is not returned. -/
def execUartRdDivlo (s : State) : Host.Outcome State Fault Refusal := operate (answer 0) s

/-- `UART.RD.IER` (R102). -/
def execUartRdIer (s : State) : Host.Outcome State Fault Refusal :=
  operate (fun s => answer s.uart.interruptEnable s) s

/-- `UART.RD.DIVHI` (R103). -/
def execUartRdDivhi (s : State) : Host.Outcome State Fault Refusal :=
  operate (fun s => answer (widenLatch s.uart.divisorHigh) s) s

/-- `UART.RD.IIR` (R104): the value before the register is reset. -/
def execUartRdIir (s : State) : Host.Outcome State Fault Refusal :=
  operate (fun s => answer s.uart.interruptIdentification
    (withUart { s.uart with interruptIdentification := IIR_IDLE } s)) s

/-- `UART.RD.LSR` (R105): transmit-empty is forced in the value read, not in the register. -/
def execUartRdLsr (s : State) : Host.Outcome State Fault Refusal :=
  operate (fun s => answer (setBits s.uart.lineStatus LSR_TXE) s) s

/-- `UART.RD.LCR` (R106; D14, log 15). -/
def execUartRdLcr (s : State) : Host.Outcome State Fault Refusal := operate (uartUnsupported .read 0x00C) s

/-- `UART.RD.MCR` (R106). -/
def execUartRdMcr (s : State) : Host.Outcome State Fault Refusal := operate (uartUnsupported .read 0x010) s

/-- `UART.RD.MSR` (R106). -/
def execUartRdMsr (s : State) : Host.Outcome State Fault Refusal := operate (uartUnsupported .read 0x018) s

/-- `UART.RD.SCR` (R106). -/
def execUartRdScr (s : State) : Host.Outcome State Fault Refusal := operate (uartUnsupported .read 0x01C) s

/-- `UART.RD.OTHER` (R106). -/
def execUartRdOther (off : Offset) (s : State) : Host.Outcome State Fault Refusal :=
  operate (uartUnsupported .read off) s

end Sys2Proof.Machine
end

