-- ==== Sys2Proof/Machine/UartWrite.lean ====
section
/-!
DEFINITION. The UART writes (R110 to R116).
-/

namespace Sys2Proof.Machine

/-- The transmission of a data write: without a backend the byte goes nowhere (R110, R126; D15, log 30). -/
def transmit (b : Byte) (s : State) : State := if s.uart.backendAttached then emitTx b s else s

/-- `UART.WR.DATA` (R110): transmit, the three register steps, recompute, in this order (R96). -/
def execUartWrData (v : Word) (s : State) : Host.Outcome State Fault Refusal :=
  operate (fun s =>
    let sent := transmit (lowByte v) s
    let stepped := withUart
      { sent.uart with interruptIdentification := afterDataWrite sent.uart.interruptIdentification } sent
    complete (irqRecompute stepped)) s

/-- `UART.WR.DIVLO` (R111). -/
def execUartWrDivlo (v : Word) (s : State) : Host.Outcome State Fault Refusal :=
  operate (fun s => complete (withUart { s.uart with divisorLow := lowLatch v } s)) s

/-- `UART.WR.IER` (R112): no recompute (D11, log 13). -/
def execUartWrIer (v : Word) (s : State) : Host.Outcome State Fault Refusal :=
  operate (fun s => complete (withUart { s.uart with interruptEnable := v } s)) s

/-- `UART.WR.DIVHI` (R113). -/
def execUartWrDivhi (v : Word) (s : State) : Host.Outcome State Fault Refusal :=
  operate (fun s => complete (withUart { s.uart with divisorHigh := lowLatch v } s)) s

/-- `UART.WR.FCR` (R114). -/
def execUartWrFcr (v : Word) (s : State) : Host.Outcome State Fault Refusal :=
  operate (fun s => complete (withUart { s.uart with fifoControl := v } s)) s

/-- `UART.WR.LCR` (R115). -/
def execUartWrLcr (v : Word) (s : State) : Host.Outcome State Fault Refusal :=
  operate (fun s => complete (withUart { s.uart with lineControl := v } s)) s

/-- `UART.WR.MCR` (R116): the value is discarded. -/
def execUartWrMcr (_v : Word) (s : State) : Host.Outcome State Fault Refusal :=
  operate (uartUnsupported .write 0x010) s

/-- `UART.WR.LSR` (R116; D14, log 15). -/
def execUartWrLsr (_v : Word) (s : State) : Host.Outcome State Fault Refusal :=
  operate (uartUnsupported .write 0x014) s

/-- `UART.WR.MSR` (R116). -/
def execUartWrMsr (_v : Word) (s : State) : Host.Outcome State Fault Refusal :=
  operate (uartUnsupported .write 0x018) s

/-- `UART.WR.SCR` (R116). -/
def execUartWrScr (_v : Word) (s : State) : Host.Outcome State Fault Refusal :=
  operate (uartUnsupported .write 0x01C) s

/-- `UART.WR.OTHER` (R116). -/
def execUartWrOther (off : Offset) (_v : Word) (s : State) : Host.Outcome State Fault Refusal :=
  operate (uartUnsupported .write off) s

end Sys2Proof.Machine
end

