-- ==== Sys2Proof/Machine/Dispatch.lean ====
section
/-!
DEFINITION. One arm for each operation of the table (R70, R82).
-/

namespace Sys2Proof.Machine

def exec (i : Instr) (s : State) : Host.Outcome State Fault Refusal :=
  match i with
  | .uartRdData => Sys2Proof.Machine.execUartRdData s
  | .uartRdDivlo => Sys2Proof.Machine.execUartRdDivlo s
  | .uartRdIer => Sys2Proof.Machine.execUartRdIer s
  | .uartRdDivhi => Sys2Proof.Machine.execUartRdDivhi s
  | .uartRdIir => Sys2Proof.Machine.execUartRdIir s
  | .uartRdLcr => Sys2Proof.Machine.execUartRdLcr s
  | .uartRdMcr => Sys2Proof.Machine.execUartRdMcr s
  | .uartRdLsr => Sys2Proof.Machine.execUartRdLsr s
  | .uartRdMsr => Sys2Proof.Machine.execUartRdMsr s
  | .uartRdScr => Sys2Proof.Machine.execUartRdScr s
  | .uartRdOther off => Sys2Proof.Machine.execUartRdOther off s
  | .uartWrData v => Sys2Proof.Machine.execUartWrData v s
  | .uartWrDivlo v => Sys2Proof.Machine.execUartWrDivlo v s
  | .uartWrIer v => Sys2Proof.Machine.execUartWrIer v s
  | .uartWrDivhi v => Sys2Proof.Machine.execUartWrDivhi v s
  | .uartWrFcr v => Sys2Proof.Machine.execUartWrFcr v s
  | .uartWrLcr v => Sys2Proof.Machine.execUartWrLcr v s
  | .uartWrMcr v => Sys2Proof.Machine.execUartWrMcr v s
  | .uartWrLsr v => Sys2Proof.Machine.execUartWrLsr v s
  | .uartWrMsr v => Sys2Proof.Machine.execUartWrMsr v s
  | .uartWrScr v => Sys2Proof.Machine.execUartWrScr v s
  | .uartWrOther off v => Sys2Proof.Machine.execUartWrOther off v s
  | .uartRx b => Sys2Proof.Machine.execUartRx b s
  | .uartCanrx => Sys2Proof.Machine.execUartCanrx s
  | .uartReset => Sys2Proof.Machine.execUartReset s
  | .uartEvent => Sys2Proof.Machine.execUartEvent s
  | .clkcRdPll0ctl => Sys2Proof.Machine.execClkcRdPll0ctl s
  | .clkcRdPll0cfg => Sys2Proof.Machine.execClkcRdPll0cfg s
  | .clkcRdPll0stat => Sys2Proof.Machine.execClkcRdPll0stat s
  | .clkcRdPll0feed => Sys2Proof.Machine.execClkcRdPll0feed s
  | .clkcRdPll1_0 => Sys2Proof.Machine.execClkcRdPll1_0 s
  | .clkcRdPll1_1 => Sys2Proof.Machine.execClkcRdPll1_1 s
  | .clkcRdPll1_2 => Sys2Proof.Machine.execClkcRdPll1_2 s
  | .clkcRdPll1_3 => Sys2Proof.Machine.execClkcRdPll1_3 s
  | .clkcRdCpuclkdiv => Sys2Proof.Machine.execClkcRdCpuclkdiv s
  | .clkcRdUsbclk => Sys2Proof.Machine.execClkcRdUsbclk s
  | .clkcRdClksrc => Sys2Proof.Machine.execClkcRdClksrc s
  | .clkcRdPclksel0 => Sys2Proof.Machine.execClkcRdPclksel0 s
  | .clkcRdPclksel1 => Sys2Proof.Machine.execClkcRdPclksel1 s
  | .clkcRdClkout => Sys2Proof.Machine.execClkcRdClkout s
  | .clkcRdOther off => Sys2Proof.Machine.execClkcRdOther off s
  | .clkcWrPll0ctl v => Sys2Proof.Machine.execClkcWrPll0ctl v s
  | .clkcWrPll0cfg v => Sys2Proof.Machine.execClkcWrPll0cfg v s
  | .clkcWrPll0stat v => Sys2Proof.Machine.execClkcWrPll0stat v s
  | .clkcWrPll0feed v => Sys2Proof.Machine.execClkcWrPll0feed v s
  | .clkcWrPll1_0 v => Sys2Proof.Machine.execClkcWrPll1_0 v s
  | .clkcWrPll1_1 v => Sys2Proof.Machine.execClkcWrPll1_1 v s
  | .clkcWrPll1_2 v => Sys2Proof.Machine.execClkcWrPll1_2 v s
  | .clkcWrPll1_3 v => Sys2Proof.Machine.execClkcWrPll1_3 v s
  | .clkcWrCpuclkdiv v => Sys2Proof.Machine.execClkcWrCpuclkdiv v s
  | .clkcWrUsbclk v => Sys2Proof.Machine.execClkcWrUsbclk v s
  | .clkcWrClksrc v => Sys2Proof.Machine.execClkcWrClksrc v s
  | .clkcWrPclksel0 v => Sys2Proof.Machine.execClkcWrPclksel0 v s
  | .clkcWrPclksel1 v => Sys2Proof.Machine.execClkcWrPclksel1 v s
  | .clkcWrClkout v => Sys2Proof.Machine.execClkcWrClkout v s
  | .clkcWrOther off v => Sys2Proof.Machine.execClkcWrOther off v s

end Sys2Proof.Machine
end

