-- ==== Sys2Proof/Machine/Boundary.lean ====
section
/-!
DEFINITION. The host's side of the contract: which unit an address belongs to (R51, R91), and the transaction a host load or store
becomes (R10, R55, R91).
-/

namespace Sys2Proof.Machine

/-- The owner of a host address and the offset it is presented at (R51, R91): `off = addr - base` when `base <= addr < base + WINDOW`. -/
def route (m : Config.MemoryMap) (addr : Word) : Option (BusUnit × Offset) :=
  let a := addr.toNat
  if m.uartBase.toNat ≤ a ∧ a < m.uartBase.toNat + m.uartWindow then
    some (.uart, BitVec.ofNat 12 (a - m.uartBase.toNat))
  else if m.clkcBase.toNat ≤ a ∧ a < m.clkcBase.toNat + m.clkcWindow then
    some (.clkc, BitVec.ofNat 12 (a - m.clkcBase.toNat))
  else none

/-- The selector of a bus transaction as its issuer gives it (R71, R72): the latch-mode bit is left for the decoder. -/
def busSelector (unit : BusUnit) (dir : Dir) (off : Offset) : Selector :=
  selectorOf (match unit with | .uart => 0 | .clkc => 1) false (match dir with | .read => false | .write => true) off

/-- The transaction of a host access with the map `m`: the unit sees no size (R55). -/
def hostTransaction (m : Config.MemoryMap) (dir : Dir) (addr : Word) (size : AccessSize) (v : Word) :
    Except Refusal (Selector × Word) :=
  if size = .wider then .error .accessTooWide
  else if m.wf then
    match route m addr with
    | some (unit, off) => .ok (busSelector unit dir off, keepLow size v)
    | none => .error .addressOutsideWindows
  else .error .memoryMapIllFormed

/-- The transaction word that a request presents (R10, R72). -/
def requestWord (m : Config.MemoryMap) : Request → Except Refusal (Selector × Word)
  | .transaction sel v => .ok (sel, v)
  | .load addr size => hostTransaction m .read addr size 0
  | .store addr size v => hostTransaction m .write addr size v

/-- The size at which the issuer of a request looks at the answer: only a host load can be narrower than 32 bits (R55). -/
def answerSize : Request → AccessSize
  | .transaction _ _ => .word
  | .load _ size => size
  | .store _ _ _ => .word

/-- Hand the answer of an operation to its issuer (R55). -/
def deliver (size : AccessSize) : Host.Outcome State Fault Refusal → Host.Outcome State Fault Refusal
  | .next s => .next { s with response := hostView size s.response }
  | .fault f => .fault f
  | .refused r => .refused r

end Sys2Proof.Machine
end

