-- ==== Sys2Proof/Machine/Fetch.lean ====
section
/-!
DEFINITION. What the next step of the block does: whether it has stopped (R41), which request is the oldest (R57, R58), and which
operation that request is under the current latch mode (R72, R76, R92, R93).
-/

namespace Sys2Proof.Machine

/-- A selector with its latch-mode bit replaced. -/
def setLatchField (latch : Bool) (sel : Selector) : Selector :=
  selectorOf (unitField sel) latch (writeField sel) (offsetField sel)

/-- The selector the decoder sees (R72, R76): for the UART window it fills in the stored latch-mode bit, whatever the word had there;
any other selector is taken as presented. -/
def fillLatch (u : Uart) (sel : Selector) : Selector :=
  if unitField sel = 0 then setLatchField u.latchOn sel else sel

/-- What the next step does. -/
inductive NextOperation where
  /-- Nothing is presented: the block does nothing between operations (R22). -/
  | idle
  /-- The block has stopped (R41). -/
  | stuck (f : Fault)
  /-- The oldest request never reaches the block. -/
  | turnedAway (r : Refusal)
  /-- The operation `i`, on the state without the request, its answer looked at in the given size. -/
  | perform (i : Instr) (s : State) (size : AccessSize)

/-- The operation that a transaction word is for the current state, with the request taken off the queue. -/
def performWord (s : State) (rest : List Request) (size : AccessSize) (sel : Selector) (v : Word) : NextOperation :=
  match decode (fillLatch s.uart sel) v with
  | .ok i => .perform i { s with pending := rest } size
  | .error e => .turnedAway (.undecodable e)

/-- The next operation (R41, R58, R92, R93): the mode is read and the choice made before any side effect. -/
def nextOperation (m : Config.MemoryMap) (s : State) : NextOperation :=
  match s.halted with
  | some e => .stuck (.fatal e)
  | none =>
    match s.pending with
    | [] => .idle
    | req :: rest =>
      match requestWord m req with
      | .ok (sel, v) => performWord s rest (answerSize req) sel v
      | .error r => .turnedAway r

/-- The UART with latch mode as the selector of a UART window operation has it, and otherwise unchanged (R72). -/
def Uart.withLatchOf (sel : Selector) (u : Uart) : Uart :=
  if unitField sel = 0 then
    { u with lineControl := if latchField sel then setBits u.lineControl LCR_DLAB else clearBits u.lineControl LCR_DLAB }
  else u

/-- The UART with a backend attached if the selector is one of the backend's calls (R57, R126), and otherwise unchanged. -/
def Uart.withBackendOf (sel : Selector) (u : Uart) : Uart :=
  if sel = 0x8000 ∨ sel = 0x8001 ∨ sel = 0x8003 then { u with backendAttached := true } else u

/-- `s` with a transaction word presented as the very next operation (log 1, log 27). -/
def present (sel : Selector) (v : Word) (s : State) : State :=
  { s with
    uart := (s.uart.withLatchOf sel).withBackendOf sel
    pending := .transaction sel v :: s.pending }

end Sys2Proof.Machine
end

