-- ==== Sys2Proof/Machine/Perform.lean ====
section
/-!
DEFINITION. One step of the block for a given map of the windows: the oldest request is performed, atomically and to completion
(R57, R58).
-/

namespace Sys2Proof.Machine

/-- One step with the windows mapped by `m`. With nothing presented the block does nothing (R22); once it has stopped it has no step
(R41). -/
def stepWith (m : Config.MemoryMap) (s : State) : Host.Outcome State Fault Refusal :=
  match nextOperation m s with
  | .idle => .next s
  | .stuck f => .fault f
  | .turnedAway r => .refused r
  | .perform i t size => deliver size (exec i t)

end Sys2Proof.Machine
end

