-- ==== Sys2Proof/Machine/Step.lean ====
section
/-!
DEFINITION. One step of the block with the host's own map of the windows, and how an operation-table word is presented to it.
-/

namespace Sys2Proof.Machine

/-- One step, with the map that the parameters of R7 give. -/
def step (s : State) : Host.Outcome State Fault Refusal := stepWith Config.memoryMap s

/-- `s` with the operation-table word `w` presented as the next operation, bits from `nbits` on being 0: the selector is bits
[15:0], the operand bits [47:16] (R72; log 27). -/
def State.withFetchWord (s : State) (nbits w : Nat) : State :=
  let bits := w % 2 ^ nbits
  present (BitVec.ofNat 16 bits) (BitVec.ofNat 32 (bits / 2 ^ 16)) s

end Sys2Proof.Machine
end

