-- ==== Sys2Proof/Machine/Contract.lean ====
section
/-!
DEFINITION. The two entry points of the slave contract as R92 and R93 write them: chains of equality tests on the offset. The machine
does not call these; it decodes through the operation table (R73) and dispatches on the operation. A statement says the two agree.
-/

namespace Sys2Proof.Machine

/-- `BusRead(UART, off)` (R92). -/
def uartBusRead (off : Offset) (s : State) : Host.Outcome State Fault Refusal :=
  let L := s.uart.latchOn
  if off = 0x000 ∧ L = false then execUartRdData s
  else if off = 0x000 ∧ L = true then execUartRdDivlo s
  else if off = 0x004 ∧ L = true then execUartRdDivhi s
  else if off = 0x004 ∧ L = false then execUartRdIer s
  else if off = 0x008 then execUartRdIir s
  else if off = 0x014 then execUartRdLsr s
  else operate (raiseFatal .uart .read off) s

/-- `BusWrite(UART, off, v)` (R92). -/
def uartBusWrite (off : Offset) (v : Word) (s : State) : Host.Outcome State Fault Refusal :=
  let L := s.uart.latchOn
  if off = 0x000 ∧ L = true then execUartWrDivlo v s
  else if off = 0x000 ∧ L = false then execUartWrData v s
  else if off = 0x004 ∧ L = true then execUartWrDivhi v s
  else if off = 0x004 ∧ L = false then execUartWrIer v s
  else if off = 0x008 then execUartWrFcr v s
  else if off = 0x00C then execUartWrLcr v s
  else operate (raiseFatal .uart .write off) s

/-- `BusRead(CLKC, off)` (R93). -/
def clkcBusRead (off : Offset) (s : State) : Host.Outcome State Fault Refusal :=
  operate (fun s =>
    if off = 0x104 then answer s.clkc.cpuClockDivideConfig s
    else if off = 0x10C then answer s.clkc.clockSourceSelect s
    else if off = 0x084 then answer s.clkc.pll0Config s
    else if off = 0x080 then answer s.clkc.pll0Control s
    else if off = 0x088 then answer PLL0STAT_FIXED s
    else answer 0 s) s

/-- `BusWrite(CLKC, off, v)` (R93). -/
def clkcBusWrite (off : Offset) (v : Word) (s : State) : Host.Outcome State Fault Refusal :=
  operate (fun s =>
    if off = 0x104 then complete (clkRecompute (withClkc { s.clkc with cpuClockDivideConfig := v } s))
    else if off = 0x10C then complete (clkRecompute (withClkc { s.clkc with clockSourceSelect := v } s))
    else if off = 0x084 then complete (clkRecompute (withClkc { s.clkc with pll0Config := v } s))
    else if off = 0x080 then complete (clkRecompute (withClkc { s.clkc with pll0Control := v } s))
    else complete s) s

/-- `BusRead(unit, off)` and `BusWrite(unit, off, v)` (R90). -/
def busAccess (unit : BusUnit) (dir : Dir) (off : Offset) (v : Word) (s : State) : Host.Outcome State Fault Refusal :=
  match unit, dir with
  | .uart, .read => uartBusRead off s
  | .uart, .write => uartBusWrite off v s
  | .clkc, .read => clkcBusRead off s
  | .clkc, .write => clkcBusWrite off v s

end Sys2Proof.Machine
end

