-- ==== Sys2Proof/Safety.lean ====
section
/-!
DEFINITION. What a safe run is, and the invariants of the states a run reaches (R41, R43, R162).
-/

namespace Sys2Proof.Machine

/-- The block has not stopped: operations have a step (R41). -/
def State.running (s : State) : Prop := s.halted = none

/-- A normal end of a run: everything presented has been performed and the block has not stopped. A halted state is never one
(R162 item 4; D13). -/
def State.final (s : State) : Prop := s.running ∧ s.pending = []

/-- The backend keeps its duty: ingress only while the readiness query would answer true (R127; D16). -/
def Uart.ingressAllowed (u : Uart) : Prop := u.canReceive = true

/-- The four values of `interruptIdentification` between operations (R43 item 2). -/
def iirLegalValues : List Word := [IIR_IDLE, IIR_IDLE ||| IIR_RX_PENDING, 0, IIR_RX_PENDING]

/-- The two values of `lineStatus` (R43 item 1). -/
def lsrLegalValues : List Word := [LSR_TXE, LSR_TXE ||| LSR_RDR]

/-- R43 items 1 to 3. -/
structure Uart.Legal (u : Uart) : Prop where
  lineStatus : u.lineStatus ∈ lsrLegalValues
  interruptIdentification : u.interruptIdentification ∈ iirLegalValues
  noTransmitCause : anySet u.interruptIdentification IIR_THRE_PENDING = false

/-- A pending receive cause belongs to a byte not yet read (R42: both bits are set by ingress, and what clears the ready bit clears the
cause). -/
def Uart.PendingHasByte (u : Uart) : Prop :=
  anySet u.interruptIdentification IIR_RX_PENDING = true → u.dataReady = true

/-- R43 item 6: either nothing has been published and no CLKC register has been stored to, or the clock scale is that of the current
registers; and it is the last value published (R62). -/
structure ClockCurrent (c : Clkc) (out : Outputs) : Prop where
  scale : (out.clockScale = none ∧ c = Clkc.construct c.mainOscillatorHz) ∨ out.clockScale = some (clkValue c)
  lastPublished : out.clockScale = out.published.getLast?

/-- The accesses with no operation behind them (R160): the only ones that stop the block. -/
def unsupportedAccess (e : FatalError) : Prop :=
  e.unit = .uart ∧
  match e.dir with
  | .read => e.off ∉ ([0x000, 0x004, 0x008, 0x014] : List Offset)
  | .write => e.off ∉ ([0x000, 0x004, 0x008, 0x00C] : List Offset)

/-- The invariant of every state a run reaches (R43, R160). -/
structure State.Inv (s : State) : Prop where
  uart : s.uart.Legal
  pendingHasByte : s.uart.PendingHasByte
  clock : ClockCurrent s.clkc s.out
  halted : ∀ e, s.halted = some e → unsupportedAccess e

/-- The operations on a UART offset with nothing behind it: the rows that R74 marks fatal. -/
def unsupportedOperation : Instr → Bool
  | .uartRdLcr | .uartRdMcr | .uartRdMsr | .uartRdScr | .uartRdOther _ => true
  | .uartWrMcr _ | .uartWrLsr _ | .uartWrMsr _ | .uartWrScr _ | .uartWrOther _ _ => true
  | _ => false

/-- The four stores that recompute the clock scale (R151). -/
def storesClock : Instr → Bool
  | .clkcWrCpuclkdiv _ | .clkcWrClksrc _ | .clkcWrPll0cfg _ | .clkcWrPll0ctl _ => true
  | _ => false

/-- The operations of the CLKC window (R75). -/
def isClkcOperation : Instr → Bool
  | .clkcRdPll0ctl | .clkcRdPll0cfg | .clkcRdPll0stat | .clkcRdPll0feed => true
  | .clkcRdPll1_0 | .clkcRdPll1_1 | .clkcRdPll1_2 | .clkcRdPll1_3 => true
  | .clkcRdCpuclkdiv | .clkcRdUsbclk | .clkcRdClksrc => true
  | .clkcRdPclksel0 | .clkcRdPclksel1 | .clkcRdClkout | .clkcRdOther _ => true
  | .clkcWrPll0ctl _ | .clkcWrPll0cfg _ | .clkcWrPll0stat _ | .clkcWrPll0feed _ => true
  | .clkcWrPll1_0 _ | .clkcWrPll1_1 _ | .clkcWrPll1_2 _ | .clkcWrPll1_3 _ => true
  | .clkcWrCpuclkdiv _ | .clkcWrUsbclk _ | .clkcWrClksrc _ => true
  | .clkcWrPclksel0 _ | .clkcWrPclksel1 _ | .clkcWrClkout _ | .clkcWrOther _ _ => true
  | _ => false

/-- The reads that R56 calls pure lookups: `UART.RD.DIVLO`, `UART.RD.IER`, `UART.RD.DIVHI`, `UART.RD.LSR` and every CLKC read. -/
def isPureRead : Instr → Bool
  | .uartRdDivlo | .uartRdIer | .uartRdDivhi | .uartRdLsr => true
  | .clkcRdPll0ctl | .clkcRdPll0cfg | .clkcRdPll0stat | .clkcRdPll0feed => true
  | .clkcRdPll1_0 | .clkcRdPll1_1 | .clkcRdPll1_2 | .clkcRdPll1_3 => true
  | .clkcRdCpuclkdiv | .clkcRdUsbclk | .clkcRdClksrc => true
  | .clkcRdPclksel0 | .clkcRdPclksel1 | .clkcRdClkout | .clkcRdOther _ => true
  | _ => false

/-- The UART writes that R56 calls idempotent. -/
def isIdempotentWrite : Instr → Bool
  | .uartWrDivlo _ | .uartWrIer _ | .uartWrDivhi _ | .uartWrFcr _ | .uartWrLcr _ => true
  | _ => false

/-- Apply a change of state to the next state of an outcome. -/
def mapNext (f : State → State) : Host.Outcome State Fault Refusal → Host.Outcome State Fault Refusal
  | .next s => .next (f s)
  | .fault e => .fault e
  | .refused r => .refused r

/-- The table of R122, with the decided constants: for a current value of `interruptIdentification`, the value after an operation and
whether the entry is marked `P` (a pulse given `IER_RDA_EN`). Operations without a column leave the register as it is. -/
def iirTable (i : Instr) (iir : Word) : Option (Word × Bool) :=
  match i with
  | .uartRx _ =>
    if iir = 0x01 then some (0x05, true) else if iir = 0x05 then some (0x05, true)
    else if iir = 0x00 then some (0x04, true) else if iir = 0x04 then some (0x04, true) else none
  | .uartRdData =>
    if iir = 0x01 then some (0x01, false) else if iir = 0x05 then some (0x01, false)
    else if iir = 0x00 then some (0x00, false) else if iir = 0x04 then some (0x00, false) else none
  | .uartRdIir =>
    if iir = 0x01 then some (0x01, false) else if iir = 0x05 then some (0x01, false)
    else if iir = 0x00 then some (0x01, false) else if iir = 0x04 then some (0x01, false) else none
  | .uartWrData _ =>
    if iir = 0x01 then some (0x00, false) else if iir = 0x05 then some (0x04, true)
    else if iir = 0x00 then some (0x00, false) else if iir = 0x04 then some (0x04, true) else none
  | .uartReset =>
    if iir = 0x01 then some (0x01, false) else if iir = 0x05 then some (0x01, false)
    else if iir = 0x00 then some (0x01, false) else if iir = 0x04 then some (0x01, false) else none
  | _ => some (iir, false)

end Sys2Proof.Machine
end

