-- ==== Sys2Proof/Certificates/Slice0/Obligations.lean ====
section
/-!
DEFINITION. The statements for the provers. Each docstring names the rules of the spec it formalises, the decisions of the spec it
rests on (D<n>), and the model's own choices (log <n>). `s.running` says the block has not stopped; after that `operate` needs nothing
else, so every form of every operation is covered.
-/

open Sys2Proof Sys2Proof.Machine

/-! ### Encoding -/

/-- A few selectors of R74 and R75 in every family, written out from `unit[15:14] L[13] W[12] off[11:0]`. -/
def Obligations.DecodeReadsSampleWordsOfEveryFamily : Prop :=
  decode 0b0000000000000000#16 0 = .ok .uartRdData ∧
  decode 0b0010000000000100#16 0 = .ok .uartRdDivhi ∧
  decode 0b0010000000010100#16 0 = .ok .uartRdLsr ∧
  decode 0b0000000000010101#16 0 = .ok (.uartRdOther 0x015) ∧
  decode 0b0001000000000000#16 0x1F41 = .ok (.uartWrData 0x1F41) ∧
  decode 0b0011000000001100#16 0x03 = .ok (.uartWrLcr 0x03) ∧
  decode 0b0011000000100000#16 7 = .ok (.uartWrOther 0x020 7) ∧
  decode 0b1000000000000000#16 0x41 = .ok (.uartRx 0x41) ∧
  decode 0b1000000000000010#16 0 = .ok .uartReset ∧
  decode 0b0100000100000100#16 0 = .ok .clkcRdCpuclkdiv ∧
  decode 0b0100000100000101#16 0 = .ok (.clkcRdOther 0x105) ∧
  decode 0b0101000010000100#16 0x00030009 = .ok (.clkcWrPll0cfg 0x00030009) ∧
  decode 0b0101000111001001#16 5 = .ok (.clkcWrOther 0x1C9 5) ∧
  decode 0b1100000000000000#16 0 = .error .unitNotUsed ∧
  decode 0b1000000000000100#16 0 = .error .noSuchPort

/-- R72 to R75: decoding the transaction word of any operation gives the operation back, in either latch mode, with every offset and
operand. -/
def Obligations.DecodeOfEncodedOperation : Prop :=
  ∀ (latch : Bool) (i : Instr), i.wf = true → decode (encode latch i).1 (encode latch i).2 = .ok i

/-- R72 to R75: what the decoder reads is a well-formed operation whose selector, with the latch bit the word had, is the word. -/
def Obligations.DecodedOperationReencodesToItsSelector : Prop :=
  ∀ (sel : Selector) (v : Word) (i : Instr), decode sel v = .ok i →
    i.wf = true ∧ i.selector (latchField sel) = sel

/-- R82: exactly the selectors it lists spell no operation. -/
def Obligations.SelectorRefusedExactlyWhenNoRowCoversIt : Prop :=
  ∀ (sel : Selector) (v : Word),
    (∃ e, decode sel v = .error e) ↔
      unitField sel = 3 ∨
      (unitField sel = 2 ∧ (3 < (offsetField sel).toNat ∨ writeField sel = true)) ∨
      ((unitField sel = 1 ∨ unitField sel = 2) ∧ latchField sel = true)

/-- R72, R76: for the UART window the decoder sees the stored bit 7 of line-control in place of whatever the word had, and the other
fields as presented; any other selector is seen as presented. -/
def Obligations.DecoderFillsInTheStoredLatchBit : Prop :=
  ∀ (u : Uart) (sel : Selector),
    (unitField sel = 0 →
      latchField (fillLatch u sel) = u.lineControl.getLsbD 7 ∧ unitField (fillLatch u sel) = 0 ∧
      writeField (fillLatch u sel) = writeField sel ∧ offsetField (fillLatch u sel) = offsetField sel) ∧
    (unitField sel ≠ 0 → fillLatch u sel = sel)

/-! ### The step -/

/-- When the oldest request is a transaction word that decodes to `i`, the step is `exec i` on the state without that request
(R57, R58; log 1). -/
def Obligations.StepPerformsTheDecodedOperation : Prop :=
  ∀ (s : State) (sel : Selector) (v : Word) (rest : List Request) (i : Instr),
    s.running → s.pending = .transaction sel v :: rest → decode (fillLatch s.uart sel) v = .ok i →
    step s = exec i { s with pending := rest }

/-- R90, R92, R93: a bus transaction presented to the block is the access that the two entry points describe by equality tests on the
offset, and a halted block has no step. The step decodes through the operation table (R73), so the two formulations agree. That the fatal
access answers a next state with `halted` set and a halted block the fault `fatal` is log 3 (D13); the queue of requests is log 1. -/
def Obligations.StepOnABusTransactionIsTheContractAccess : Prop :=
  ∀ (s : State) (unit : BusUnit) (dir : Dir) (off : Offset) (v : Word) (rest : List Request),
    s.pending = .transaction (busSelector unit dir off) v :: rest →
    (s.running → step s = busAccess unit dir off v { s with pending := rest }) ∧
    (∀ e, s.halted = some e → step s = .fault (.fatal e))

/-- R22: with nothing presented the block does nothing (log 1). -/
def Obligations.StepWithNothingPresentedChangesNothing : Prop :=
  ∀ s : State, s.running → s.pending = [] → step s = .next s

/-- R41, R162 item 3: once the block has halted, no operation of any agent has a step (D13, log 3). -/
def Obligations.HaltedBlockHasNoStep : Prop :=
  ∀ (s : State) (e : FatalError), s.halted = some e →
    step s = .fault (.fatal e) ∧ ∀ i : Instr, exec i s = .fault (.fatal e)

/-- R82, I8: a transaction word that spells no operation is refused (log 25). -/
def Obligations.StepRefusesAWordThatSpellsNoOperation : Prop :=
  ∀ (s : State) (sel : Selector) (v : Word) (rest : List Request) (e : SelectorError),
    s.running → s.pending = .transaction sel v :: rest → decode (fillLatch s.uart sel) v = .error e →
    step s = .refused (.undecodable e)

/-- R58: operations take effect in the order they are presented, one a step (log 1). -/
def Obligations.StepTakesExactlyTheOldestRequest : Prop :=
  ∀ s t : State, step s = .next t → t.pending = s.pending.tail

/-- R10, R51, R55, R91: a host load or store of at most 32 bits whose address lies in a window is one bus access of the owning unit
at `off = addr - base`; a store is presented zero-extended and a load takes the low bits (D1, D2, D3; log 5,
log 19). The sizes are 1, 2 and 4 bytes (log 33). -/
def Obligations.HostAccessInAWindowIsOneBusAccess : Prop :=
  ∀ (m : Config.MemoryMap) (s : State) (addr : Word) (size : AccessSize) (v : Word) (rest : List Request),
    m.wf = true → s.running → size ≠ .wider →
    (m.uartBase.toNat ≤ addr.toNat → addr.toNat < m.uartBase.toNat + m.uartWindow →
      stepWith m { s with pending := .load addr size :: rest } =
        deliver size (busAccess .uart .read (BitVec.ofNat 12 (addr.toNat - m.uartBase.toNat)) 0 { s with pending := rest }) ∧
      stepWith m { s with pending := .store addr size v :: rest } =
        busAccess .uart .write (BitVec.ofNat 12 (addr.toNat - m.uartBase.toNat)) (keepLow size v) { s with pending := rest }) ∧
    (m.clkcBase.toNat ≤ addr.toNat → addr.toNat < m.clkcBase.toNat + m.clkcWindow →
      stepWith m { s with pending := .load addr size :: rest } =
        deliver size (busAccess .clkc .read (BitVec.ofNat 12 (addr.toNat - m.clkcBase.toNat)) 0 { s with pending := rest }) ∧
      stepWith m { s with pending := .store addr size v :: rest } =
        busAccess .clkc .write (BitVec.ofNat 12 (addr.toNat - m.clkcBase.toNat)) (keepLow size v) { s with pending := rest })

/-- R51, R55: an access wider than 32 bits, or to an address in neither window, never reaches the block (D1, D2; log 5, log 19). -/
def Obligations.HostAccessTheBlockNeverSeesIsRefused : Prop :=
  ∀ (m : Config.MemoryMap) (s : State) (addr : Word) (size : AccessSize) (v : Word) (rest : List Request),
    s.running →
    (stepWith m { s with pending := .load addr .wider :: rest } = .refused .accessTooWide ∧
      stepWith m { s with pending := .store addr .wider v :: rest } = .refused .accessTooWide) ∧
    (m.wf = true → size ≠ .wider →
      ¬ (m.uartBase.toNat ≤ addr.toNat ∧ addr.toNat < m.uartBase.toNat + m.uartWindow) →
      ¬ (m.clkcBase.toNat ≤ addr.toNat ∧ addr.toNat < m.clkcBase.toNat + m.clkcWindow) →
      stepWith m { s with pending := .load addr size :: rest } = .refused .addressOutsideWindows ∧
      stepWith m { s with pending := .store addr size v :: rest } = .refused .addressOutsideWindows)

/-- R53, R55: the low bits an access keeps are the value modulo 2^8, 2^16 or 2^32, and the four byte lanes, little-endian, are the
value (D1, D3; log 19). -/
def Obligations.ByteLanesAreLittleEndian : Prop :=
  ∀ v : Word,
    (keepLow .byte v).toNat = v.toNat % 256 ∧ (keepLow .halfword v).toNat = v.toNat % 65536 ∧ keepLow .word v = v ∧
    v = byteLane 3 v ++ byteLane 2 v ++ byteLane 1 v ++ byteLane 0 v

/-! ### UART reads -/

/-- R100: the byte is returned zero-extended, the ready bit and the receive cause are cleared, nothing else changes; the buffer is then
free, and a second read returns the same byte (D10, D11, D30). -/
def Obligations.DataReadReturnsTheByteAndFreesTheBuffer : Prop :=
  ∀ s : State, s.running →
    ∃ t, exec .uartRdData s = .next t ∧
      t = { s with
        uart := { s.uart with
          lineStatus := s.uart.lineStatus &&& ~~~LSR_RDR
          interruptIdentification := s.uart.interruptIdentification &&& ~~~IIR_RX_PENDING }
        response := .value (s.uart.receiveBuffer.setWidth 32) } ∧
      t.uart.canReceive = true ∧ exec .uartRdData t = .next t

/-- R101: the read at the divisor-low offset returns 0 whatever the latch holds, and touches nothing. -/
def Obligations.DivisorLowReadsAsZero : Prop :=
  (∀ v, decode 0x2000 v = .ok .uartRdDivlo) ∧
  ∀ s : State, s.running → exec .uartRdDivlo s = .next { s with response := .value 0 }

/-- R102, R103: interrupt-enable comes back whole and divisor-high zero-extended, without side effect (D7, D8, D30). -/
def Obligations.InterruptEnableAndDivisorHighReadBack : Prop :=
  ∀ s : State, s.running →
    exec .uartRdIer s = .next { s with response := .value s.uart.interruptEnable } ∧
    exec .uartRdDivhi s = .next { s with response := .value (s.uart.divisorHigh.setWidth 32) }

/-- R104: the value before the reset of the register is returned, the register becomes "no interrupt pending", and a second read
returns that; the ready bit and the byte stay (D11). -/
def Obligations.IdentificationReadReturnsTheValueThenResetsIt : Prop :=
  ∀ s : State, s.running →
    ∃ t, exec .uartRdIir s = .next t ∧
      t = { s with
        uart := { s.uart with interruptIdentification := IIR_IDLE }
        response := .value s.uart.interruptIdentification } ∧
      t.uart.canReceive = s.uart.canReceive ∧ exec .uartRdIir t = .next { t with response := .value IIR_IDLE }

/-- R105: transmit-empty is forced in the value returned; the stored register is not changed; in a legal state the value is the stored
one, `LSR_TXE` with no byte waiting and `LSR_TXE | LSR_RDR` with one. -/
def Obligations.LineStatusReadForcesTransmitEmpty : Prop :=
  (∀ v, decode 0x0014 v = .ok .uartRdLsr ∧ decode 0x2014 v = .ok .uartRdLsr) ∧
  ∀ s : State, s.running →
    exec .uartRdLsr s = .next { s with response := .value (s.uart.lineStatus ||| LSR_TXE) } ∧
    (s.uart.lineStatus ∈ lsrLegalValues →
      s.uart.lineStatus ||| LSR_TXE = s.uart.lineStatus ∧
      (s.uart.canReceive = true → s.uart.lineStatus = LSR_TXE) ∧
      (s.uart.canReceive = false → s.uart.lineStatus = LSR_TXE ||| LSR_RDR))

/-- R106: a read of a UART offset with no operation behind it records the fault and the diagnostic and changes nothing else
(D14; the state the model answers is its own choice, log 3). -/
def Obligations.UnsupportedUartReadStopsTheBlock : Prop :=
  ∀ s : State, s.running →
    let stopped (off : Offset) : State := { s with
      out := { s.out with diag := s.out.diag ++ [.unsupportedOffset ⟨.uart, .read, off⟩] }
      halted := some ⟨.uart, .read, off⟩
      response := .fatal ⟨.uart, .read, off⟩ }
    exec .uartRdLcr s = .next (stopped 0x00C) ∧ exec .uartRdMcr s = .next (stopped 0x010) ∧
    exec .uartRdMsr s = .next (stopped 0x018) ∧ exec .uartRdScr s = .next (stopped 0x01C) ∧
    ∀ off, exec (.uartRdOther off) s = .next (stopped off)

/-! ### UART writes -/

/-- R110, R126: with a backend the byte `v[7:0]` is appended to the transmit stream, without one it goes nowhere; the "no-interrupt" bit
and the transmit cause end clear and the receive cause is kept; there is one pulse exactly if the receive interrupt is enabled and its
cause pending, and never one for the transmission (D12, D15; log 14, log 30). -/
def Obligations.DataWriteTransmitsAndPulsesOnlyForAPendingByte : Prop :=
  ∀ (s : State) (v : Word), s.running →
    exec (.uartWrData v) s = .next { s with
      uart := { s.uart with
        interruptIdentification := s.uart.interruptIdentification &&& ~~~(IIR_NOINT ||| IIR_THRE_PENDING) }
      out := { s.out with
        tx := if s.uart.backendAttached = true then s.out.tx ++ [v.setWidth 8] else s.out.tx
        irq := if s.uart.interruptEnable &&& IER_RDA_EN ≠ 0 ∧ s.uart.interruptIdentification &&& IIR_RX_PENDING ≠ 0
          then s.out.irq + 1 else s.out.irq }
      response := .done }

/-- R111, R113: a divisor latch keeps `v[15:0]`; nothing is transmitted and no register of the data side changes (D7). -/
def Obligations.DivisorLatchWritesKeepSixteenBits : Prop :=
  ∀ (s : State) (v : Word), s.running →
    exec (.uartWrDivlo v) s = .next { s with uart := { s.uart with divisorLow := v.setWidth 16 }, response := .done } ∧
    exec (.uartWrDivhi v) s = .next { s with uart := { s.uart with divisorHigh := v.setWidth 16 }, response := .done }

/-- R112: the value is stored whole and there is no pulse, pending cause or not (D8, D11). -/
def Obligations.InterruptEnableWriteStoresWithoutAPulse : Prop :=
  ∀ (s : State) (v : Word), s.running →
    exec (.uartWrIer v) s = .next { s with uart := { s.uart with interruptEnable := v }, response := .done }

/-- R114: the raw value is stored and nothing else happens; and nothing ever depends on it: every other operation does from a state with
another FIFO-control exactly what it does without, FIFO-control kept, and a second write of it leaves no trace of the first. The stored
value is all 32 bits (D8, log 10), and that `UART.RESET` is among the operations that keep it is a choice (D9, log 11). -/
def Obligations.FifoControlIsStoredAndNeverReadBack : Prop :=
  (∀ v, decode 0x1008 v = .ok (.uartWrFcr v) ∧ decode 0x3008 v = .ok (.uartWrFcr v)) ∧
  ∀ (s : State) (v : Word),
    (s.running →
      exec (.uartWrFcr v) s = .next { s with uart := { s.uart with fifoControl := v }, response := .done }) ∧
    (∀ w, exec (.uartWrFcr w) { s with uart := { s.uart with fifoControl := v } } = exec (.uartWrFcr w) s) ∧
    ∀ i : Instr, (∀ w, i ≠ .uartWrFcr w) →
      exec i { s with uart := { s.uart with fifoControl := v } } =
        mapNext (fun t => { t with uart := { t.uart with fifoControl := v } }) (exec i s)

/-- R115, R106: the raw value is stored and nothing else changes, and its bit 7 is the latch mode that every later access to offsets 0x00
and 0x04 is decoded with. The register cannot be read back: a read of 0x0C is fatal (D14, log 15), and answers a next state with `halted`
set (log 3). The stored value is all 32 bits (D8, log 10). -/
def Obligations.LineControlWriteSetsTheLatchMode : Prop :=
  (∀ v, decode 0x100C v = .ok (.uartWrLcr v) ∧ decode 0x300C v = .ok (.uartWrLcr v)) ∧
  ∀ (s : State) (v w : Word), s.running →
    ∃ t, exec (.uartWrLcr v) s = .next t ∧
      t = { s with uart := { s.uart with lineControl := v }, response := .done } ∧
      (v.getLsbD 7 = true →
        decode (fillLatch t.uart (busSelector .uart .read 0x000)) 0 = .ok .uartRdDivlo ∧
        decode (fillLatch t.uart (busSelector .uart .read 0x004)) 0 = .ok .uartRdDivhi ∧
        decode (fillLatch t.uart (busSelector .uart .write 0x000)) w = .ok (.uartWrDivlo w) ∧
        decode (fillLatch t.uart (busSelector .uart .write 0x004)) w = .ok (.uartWrDivhi w)) ∧
      (v.getLsbD 7 = false →
        decode (fillLatch t.uart (busSelector .uart .read 0x000)) 0 = .ok .uartRdData ∧
        decode (fillLatch t.uart (busSelector .uart .read 0x004)) 0 = .ok .uartRdIer ∧
        decode (fillLatch t.uart (busSelector .uart .write 0x000)) w = .ok (.uartWrData w) ∧
        decode (fillLatch t.uart (busSelector .uart .write 0x004)) w = .ok (.uartWrIer w)) ∧
      decode (fillLatch t.uart (busSelector .uart .read 0x00C)) 0 = .ok .uartRdLcr ∧
      ∃ r, exec .uartRdLcr t = .next r ∧ r.halted = some ⟨.uart, .read, 0x00C⟩

/-- R116: a write of a UART offset with no operation behind it discards the value, records the fault and the diagnostic and changes
nothing else (D14; the state the model answers is its own choice, log 3). -/
def Obligations.UnsupportedUartWriteStopsTheBlock : Prop :=
  ∀ (s : State) (v : Word), s.running →
    let stopped (off : Offset) : State := { s with
      out := { s.out with diag := s.out.diag ++ [.unsupportedOffset ⟨.uart, .write, off⟩] }
      halted := some ⟨.uart, .write, off⟩
      response := .fatal ⟨.uart, .write, off⟩ }
    exec (.uartWrMcr v) s = .next (stopped 0x010) ∧ exec (.uartWrLsr v) s = .next (stopped 0x014) ∧
    exec (.uartWrMsr v) s = .next (stopped 0x018) ∧ exec (.uartWrScr v) s = .next (stopped 0x01C) ∧
    ∀ off, exec (.uartWrOther off v) s = .next (stopped off)

/-! ### The interrupt, the side ports and the reset -/

/-- R120 with the decided constants (D4, D5; log 8): the condition is bit 0 of the enable register with bit 2 of the identification
register, or bit 1 with bit 1. -/
def Obligations.InterruptConditionByBits : Prop :=
  ∀ u : Uart, u.irqCond =
    ((u.interruptEnable.getLsbD 0 && u.interruptIdentification.getLsbD 2) ||
     (u.interruptEnable.getLsbD 1 && u.interruptIdentification.getLsbD 1))

/-- R123: ingress stores the byte, sets the ready bit and the receive cause, and pulses once if the receive interrupt is enabled; a
waiting byte is overwritten. (Only in a state no run reaches, with a transmit cause left pending, can the other disjunct of the
condition make the pulse.) Rests on D10 and D16 (log 7, log 12). -/
def Obligations.IngressStoresTheByteAndPulsesIfEnabled : Prop :=
  ∀ (s : State) (b : Byte), s.running → s.uart.backendAttached = true →
    exec (.uartRx b) s = .next { s with
      uart := { s.uart with
        receiveBuffer := b
        lineStatus := s.uart.lineStatus ||| LSR_RDR
        interruptIdentification := s.uart.interruptIdentification ||| IIR_RX_PENDING }
      out := { s.out with
        irq := if s.uart.interruptEnable &&& IER_RDA_EN ≠ 0 ∨
            (s.uart.interruptEnable &&& IER_THRE_EN ≠ 0 ∧ s.uart.interruptIdentification &&& IIR_THRE_PENDING ≠ 0)
          then s.out.irq + 1 else s.out.irq }
      response := .done }

/-- R124: the query answers "ready bit is clear" and changes nothing: true after construction and reset, false from ingress until the
next data read or reset, and an identification read does not make it true. -/
def Obligations.ReadinessQueryAnswersReadyBitClear : Prop :=
  (∀ v, decode 0x8001 v = .ok .uartCanrx) ∧
  (∀ hz attached, (State.construct hz attached).uart.canReceive = true) ∧
  ∀ s : State, s.running → s.uart.backendAttached = true →
    exec .uartCanrx s = .next { s with response := .ready (decide (s.uart.lineStatus &&& LSR_RDR = 0)) } ∧
    (∀ b t, exec (.uartRx b) s = .next t → exec .uartCanrx t = .next { t with response := .ready false }) ∧
    (∀ t, exec .uartRdData s = .next t → exec .uartCanrx t = .next { t with response := .ready true }) ∧
    (∀ t, exec .uartReset s = .next t → exec .uartCanrx t = .next { t with response := .ready true }) ∧
    ∀ (i : Instr) (t : State), s.uart.canReceive = false → exec i s = .next t → i ≠ .uartRdData → i ≠ .uartReset →
      t.uart.canReceive = false

/-- R125: the notifier changes no state, drives no output and does not fault. -/
def Obligations.EventNotifierDoesNothing : Prop :=
  (∀ v, decode 0x8003 v = .ok .uartEvent) ∧
  ∀ s : State, s.running → s.uart.backendAttached = true → exec .uartEvent s = .next { s with response := .done }

/-- R126: with no backend its three calls have no step, and every operation but these and the data write does the same as with a
backend (log 6). -/
def Obligations.WithoutABackendOnlyItsCallsAndTransmissionDiffer : Prop :=
  (∀ (s : State) (b : Byte), s.running → s.uart.backendAttached = false →
    exec (.uartRx b) s = .fault .noBackend ∧ exec .uartCanrx s = .fault .noBackend ∧
    exec .uartEvent s = .fault .noBackend) ∧
  ∀ (s : State) (i : Instr) (attached : Bool), i.agent ≠ .backend → (∀ v, i ≠ .uartWrData v) →
    exec i { s with uart := { s.uart with backendAttached := attached } } =
      mapNext (fun t => { t with uart := { t.uart with backendAttached := attached } }) (exec i s)

/-- R122, R167: in every legal state the identification register moves, and the interrupt pulses, exactly as the table of R122 says, for
all 56 operations (decided constants D4, D5; D10, D11). -/
def Obligations.IdentificationRegisterFollowsTheStateTable : Prop :=
  ∀ (s t : State) (i : Instr), s.uart.Legal → exec i s = .next t →
    ∃ w pulse, iirTable i s.uart.interruptIdentification = some (w, pulse) ∧
      t.uart.interruptIdentification = w ∧
      t.out.irq = s.out.irq + (if pulse = true ∧ s.uart.interruptEnable &&& IER_RDA_EN ≠ 0 then 1 else 0)

/-- R42: the table of what sets and clears each status flag is complete. That neither ingress nor a data read touches the no-interrupt bit
is a choice (D10, log 12). -/
def Obligations.StatusFlagsChangeOnlyByTheirOperations : Prop :=
  ∀ (s t : State) (i : Instr), exec i s = .next t →
    (anySet s.uart.lineStatus LSR_RDR = false → anySet t.uart.lineStatus LSR_RDR = true → ∃ b, i = .uartRx b) ∧
    (anySet s.uart.lineStatus LSR_RDR = true → anySet t.uart.lineStatus LSR_RDR = false →
      i = .uartRdData ∨ i = .uartReset) ∧
    (anySet s.uart.lineStatus LSR_TXE = true → anySet t.uart.lineStatus LSR_TXE = true) ∧
    (anySet s.uart.lineStatus LSR_TXE = false → anySet t.uart.lineStatus LSR_TXE = true → i = .uartReset) ∧
    (anySet s.uart.interruptIdentification IIR_RX_PENDING = false →
      anySet t.uart.interruptIdentification IIR_RX_PENDING = true → ∃ b, i = .uartRx b) ∧
    (anySet s.uart.interruptIdentification IIR_RX_PENDING = true →
      anySet t.uart.interruptIdentification IIR_RX_PENDING = false →
      i = .uartRdData ∨ i = .uartRdIir ∨ i = .uartReset) ∧
    (anySet s.uart.interruptIdentification IIR_THRE_PENDING = false →
      anySet t.uart.interruptIdentification IIR_THRE_PENDING = false) ∧
    (anySet s.uart.interruptIdentification IIR_NOINT = false →
      anySet t.uart.interruptIdentification IIR_NOINT = true → i = .uartRdIir ∨ i = .uartReset) ∧
    (anySet s.uart.interruptIdentification IIR_NOINT = true →
      anySet t.uart.interruptIdentification IIR_NOINT = false → ∃ v, i = .uartWrData v)

/-- R182, R180: the six defaults are restored and nothing else changes; construction is the reset applied to the all-zero UART
(D7, D9, D25, D32). -/
def Obligations.ResetRestoresTheSixDefaults : Prop :=
  (∀ s : State, s.running →
    exec .uartReset s = .next { s with
      uart := { s.uart with
        divisorLow := 1
        divisorHigh := 0
        interruptEnable := 0
        interruptIdentification := IIR_IDLE
        lineStatus := LSR_TXE
        receiveBuffer := 0 }
      response := .done }) ∧
  ∀ (s t : State), s.running → exec .uartReset s = .next t → s.uart.fifoControl = 0 → s.uart.lineControl = 0 →
    t.uart = Uart.construct s.uart.backendAttached

/-- R44, R180, R181: the values after construction, with the parameters of R7 (D7, D9, D20; log 4). -/
def Obligations.ConstructionLeavesTheStatedValues : Prop :=
  State.reset.uart.divisorLow = 1 ∧ State.reset.uart.divisorHigh = 0 ∧ State.reset.uart.interruptEnable = 0 ∧
  State.reset.uart.interruptIdentification = IIR_IDLE ∧ State.reset.uart.fifoControl = 0 ∧
  State.reset.uart.lineControl = 0 ∧ State.reset.uart.lineStatus = LSR_TXE ∧ State.reset.uart.receiveBuffer = 0 ∧
  State.reset.uart.backendAttached = Config.BACKEND_ATTACHED ∧
  State.reset.clkc.mainOscillatorHz = Config.MAIN_OSC_HZ ∧ State.reset.clkc.cpuClockDivideConfig = 0 ∧
  State.reset.clkc.clockSourceSelect = 0 ∧ State.reset.clkc.pll0Config = 0 ∧ State.reset.clkc.pll0Control = 0 ∧
  State.reset.out.tx = [] ∧ State.reset.out.irq = 0 ∧ State.reset.out.clockScale = none ∧ State.reset.out.diag = [] ∧
  State.reset.halted = none

/-! ### The clock controller -/

/-- R130 to R133: the four stored registers read back whole and without side effect; they are 0 after construction, and a read after a
write returns the value written. -/
def Obligations.ClockRegistersReadBackWhole : Prop :=
  (∀ v, decode 0x4104 v = .ok .clkcRdCpuclkdiv ∧ decode 0x410C v = .ok .clkcRdClksrc ∧
    decode 0x4084 v = .ok .clkcRdPll0cfg ∧ decode 0x4080 v = .ok .clkcRdPll0ctl) ∧
  (∀ hz attached, (State.construct hz attached).clkc = ⟨hz, 0, 0, 0, 0⟩) ∧
  (∀ s : State, s.running →
    exec .clkcRdCpuclkdiv s = .next { s with response := .value s.clkc.cpuClockDivideConfig } ∧
    exec .clkcRdClksrc s = .next { s with response := .value s.clkc.clockSourceSelect } ∧
    exec .clkcRdPll0cfg s = .next { s with response := .value s.clkc.pll0Config } ∧
    exec .clkcRdPll0ctl s = .next { s with response := .value s.clkc.pll0Control }) ∧
  ∀ (s t : State) (v : Word),
    (exec (.clkcWrCpuclkdiv v) s = .next t → exec .clkcRdCpuclkdiv t = .next { t with response := .value v }) ∧
    (exec (.clkcWrClksrc v) s = .next t → exec .clkcRdClksrc t = .next { t with response := .value v }) ∧
    (exec (.clkcWrPll0cfg v) s = .next t → exec .clkcRdPll0cfg t = .next { t with response := .value v }) ∧
    (exec (.clkcWrPll0ctl v) s = .next t → exec .clkcRdPll0ctl t = .next { t with response := .value v })

/-- R134: the status register reads as the fixed pattern, whatever was written anywhere (D18, log 8). -/
def Obligations.Pll0StatusReadsTheFixedPattern : Prop :=
  ∀ s : State, s.running → exec .clkcRdPll0stat s = .next { s with response := .value PLL0STAT_FIXED }

/-- R135: every CLKC read but those of 0x080, 0x084, 0x088, 0x104 and 0x10C returns 0 and has no side effect. That an offset which is not a
multiple of 4 is one of these is D23 (log 20). -/
def Obligations.OtherClockReadsReturnZero : Prop :=
  ∀ s : State, s.running →
    (exec .clkcRdPll0feed s = .next { s with response := .value 0 } ∧
      exec .clkcRdPll1_0 s = .next { s with response := .value 0 } ∧
      exec .clkcRdPll1_1 s = .next { s with response := .value 0 } ∧
      exec .clkcRdPll1_2 s = .next { s with response := .value 0 } ∧
      exec .clkcRdPll1_3 s = .next { s with response := .value 0 } ∧
      exec .clkcRdUsbclk s = .next { s with response := .value 0 } ∧
      exec .clkcRdPclksel0 s = .next { s with response := .value 0 } ∧
      exec .clkcRdPclksel1 s = .next { s with response := .value 0 } ∧
      exec .clkcRdClkout s = .next { s with response := .value 0 } ∧
      ∀ off, exec (.clkcRdOther off) s = .next { s with response := .value 0 }) ∧
    ∀ (off : Offset) (v : Word), off ∉ ([0x080, 0x084, 0x088, 0x104, 0x10C] : List Offset) →
      ∃ i, decode (busSelector .clkc .read off) v = .ok i ∧ exec i s = .next { s with response := .value 0 }

/-- R136 to R139: the four stores keep all 32 bits and then recompute, so the value of the registers as they now stand is published, with
a diagnostic when the source is not Internal; PLL0-control is stored and plays no part in the value. -/
def Obligations.ClockStoresRecomputeAndPublish : Prop :=
  (∀ v, decode 0x5104 v = .ok (.clkcWrCpuclkdiv v) ∧ decode 0x510C v = .ok (.clkcWrClksrc v) ∧
    decode 0x5084 v = .ok (.clkcWrPll0cfg v) ∧ decode 0x5080 v = .ok (.clkcWrPll0ctl v)) ∧
  (∀ (s : State) (v : Word), s.running →
    let published (c : Clkc) : State := { s with
      clkc := c
      out := { s.out with
        clockScale := some (clkValue c)
        published := s.out.published ++ [clkValue c]
        diag := if c.clockSourceSelect.extractLsb' 0 2 = CLKSRC_INTERNAL then s.out.diag
          else s.out.diag ++ [.unsupportedClockSource (c.clockSourceSelect.extractLsb' 0 2)] }
      response := .done }
    exec (.clkcWrCpuclkdiv v) s = .next (published { s.clkc with cpuClockDivideConfig := v }) ∧
    exec (.clkcWrClksrc v) s = .next (published { s.clkc with clockSourceSelect := v }) ∧
    exec (.clkcWrPll0cfg v) s = .next (published { s.clkc with pll0Config := v }) ∧
    exec (.clkcWrPll0ctl v) s = .next (published { s.clkc with pll0Control := v })) ∧
  ∀ (c : Clkc) (v : Word), clkValue { c with pll0Control := v } = clkValue c

/-- R140: a write of the PLL0-feed strobe, any value, is accepted; it stores nothing, publishes nothing and emits no diagnostic (the spec
marks as its own inference that it does not recompute). -/
def Obligations.PllFeedIsAcceptedWithoutEffect : Prop :=
  (∀ v, decode 0x508C v = .ok (.clkcWrPll0feed v) ∧ decode 0x408C v = .ok .clkcRdPll0feed) ∧
  ∀ (s : State) (v : Word), s.running →
    exec (.clkcWrPll0feed v) s = .next { s with response := .done } ∧
    ∀ t, exec (.clkcWrPll0feed v) s = .next t → exec .clkcRdPll0feed t = .next { t with response := .value 0 }

/-- R141: every CLKC write of an offset other than 0x080, 0x084, 0x08C, 0x104 and 0x10C is accepted and changes nothing, publishes nothing
and emits no diagnostic. That an offset which is not a multiple of 4 is one of these is D23 (log 20). -/
def Obligations.OtherClockWritesChangeNothing : Prop :=
  ∀ (s : State) (v : Word), s.running →
    (exec (.clkcWrPll0stat v) s = .next { s with response := .done } ∧
      exec (.clkcWrPll1_0 v) s = .next { s with response := .done } ∧
      exec (.clkcWrPll1_1 v) s = .next { s with response := .done } ∧
      exec (.clkcWrPll1_2 v) s = .next { s with response := .done } ∧
      exec (.clkcWrPll1_3 v) s = .next { s with response := .done } ∧
      exec (.clkcWrUsbclk v) s = .next { s with response := .done } ∧
      exec (.clkcWrPclksel0 v) s = .next { s with response := .done } ∧
      exec (.clkcWrPclksel1 v) s = .next { s with response := .done } ∧
      exec (.clkcWrClkout v) s = .next { s with response := .done } ∧
      ∀ off, exec (.clkcWrOther off v) s = .next { s with response := .done }) ∧
    ∀ off : Offset, off ∉ ([0x080, 0x084, 0x08C, 0x104, 0x10C] : List Offset) →
      ∃ i, decode (busSelector .clkc .write off) v = .ok i ∧ exec i s = .next { s with response := .done }

/-- R145, R147, R148: the value function, in the arithmetic of the register values: `src`, `M`, `N` and `div8` are the low 2, low 16, high
16 and low 8 bits; a source other than Internal gives the fixed value, and otherwise two truncating divisions follow the product. Outside
the agreement band of R148 item 7 the exact value rests on D19 (log 16). -/
def Obligations.ClockValueIsTheFormula : Prop :=
  ∀ c : Clkc, clkValue c =
    if c.clockSourceSelect.toNat % 4 ≠ CLKSRC_INTERNAL.toNat then FALLBACK_HZ
    else (2 * (c.pll0Config.toNat % 65536 + 1) * c.mainOscillatorHz) / (c.pll0Config.toNat / 65536 + 1) /
      (c.cpuClockDivideConfig.toNat % 256 + 1)

/-- R148 items 5 and 7: one division by the product of the divisors gives the same value, and whenever the product stays below 2^31
(below 2^32) signed (unsigned) 32-bit arithmetic gives the same number (D19, log 16). -/
def Obligations.ClockValueAgreesWithFixedWidthArithmetic : Prop :=
  ∀ c : Clkc, c.source = CLKSRC_INTERNAL →
    clkValue c = (2 * (c.multiplierM + 1) * c.mainOscillatorHz) / ((c.dividerN + 1) * (c.div8 + 1)) ∧
    (2 * (c.multiplierM + 1) * c.mainOscillatorHz < 2 ^ 31 →
      clkValue c = (((2 * BitVec.ofNat 32 (c.multiplierM + 1) * BitVec.ofNat 32 c.mainOscillatorHz).sdiv
        (BitVec.ofNat 32 (c.dividerN + 1))).sdiv (BitVec.ofNat 32 (c.div8 + 1))).toNat) ∧
    (2 * (c.multiplierM + 1) * c.mainOscillatorHz < 2 ^ 32 →
      clkValue c = (((2 * BitVec.ofNat 32 (c.multiplierM + 1) * BitVec.ofNat 32 c.mainOscillatorHz) /
        (BitVec.ofNat 32 (c.dividerN + 1))) / (BitVec.ofNat 32 (c.div8 + 1))).toNat)

/-- R152: the range of the value with Internal selected, and both ends are attained (D19, log 16). -/
def Obligations.ClockValueRange : Prop :=
  (∀ c : Clkc, c.source = CLKSRC_INTERNAL →
    (2 * c.mainOscillatorHz) / 65536 / 256 ≤ clkValue c ∧ clkValue c ≤ 2 * 65536 * c.mainOscillatorHz ∧
    (c.mainOscillatorHz = 0 → clkValue c = 0)) ∧
  (∀ hz : Nat, clkValue ⟨hz, 0xFF, 0, 0xFFFF0000, 0⟩ = (2 * hz) / 65536 / 256 ∧
    clkValue ⟨hz, 0, 0, 0x0000FFFF, 0⟩ = 2 * 65536 * hz ∧ clkValue ⟨hz, 0, 0, 0, 0⟩ = 2 * hz) ∧
  ∀ hz : Nat, hz < 8388608 → (2 * hz) / 65536 / 256 = 0

/-- R149, R151: each of the four stores publishes exactly once, the value of the registers after the store; no other operation publishes
anything (D20, log 17), and none changes a clock register (R20, R141). That `UART.RESET` is among these is a choice, for the registers D25
(log 22) and for the clock scale D32 (log 23). -/
def Obligations.ClockScaleIsPublishedExactlyByTheFourStores : Prop :=
  ∀ (s t : State) (i : Instr), exec i s = .next t →
    (storesClock i = true →
      t.out.published = s.out.published ++ [clkValue t.clkc] ∧ t.out.clockScale = some (clkValue t.clkc)) ∧
    (storesClock i = false →
      t.out.published = s.out.published ∧ t.out.clockScale = s.out.clockScale ∧ t.clkc = s.clkc)

/-- R149, R150: the diagnostic of a recompute names the source, with the codes of D17 (log 8, log 18). -/
def Obligations.ClockSourceDiagnosticNamesTheSource : Prop :=
  ∀ (s t : State) (v : Word), exec (.clkcWrClksrc v) s = .next t →
    (v.toNat % 4 = 0 → t.out.diag = s.out.diag) ∧
    (v.toNat % 4 = 1 → t.out.diag.map Diag.text = s.out.diag.map Diag.text ++ ["unsupported clock source: Main-Oscillator"]) ∧
    (v.toNat % 4 = 2 → t.out.diag.map Diag.text = s.out.diag.map Diag.text ++ ["unsupported clock source: RTC"]) ∧
    (v.toNat % 4 = 3 → t.out.diag.map Diag.text = s.out.diag.map Diag.text ++ ["unsupported clock source: unknown (3)"]) ∧
    (v.toNat % 4 ≠ 0 → t.out.clockScale = some FALLBACK_HZ)

/-- R163: selecting a source other than Internal completes normally, the register holds the written value, the fallback value is
published and a diagnostic is emitted, and the block goes on; the fallback value then stays until a later store makes the low two bits 0
again. -/
def Obligations.UnsupportedClockSourceIsRecoverable : Prop :=
  (∀ (s : State) (v : Word), s.running → v.toNat % 4 ≠ 0 →
    ∃ t, exec (.clkcWrClksrc v) s = .next t ∧ t.response = .done ∧ t.clkc.clockSourceSelect = v ∧
      t.out.clockScale = some FALLBACK_HZ ∧ (∃ d, t.out.diag = s.out.diag ++ [d]) ∧ t.running) ∧
  ∀ s t : State, s.clkc.clockSourceSelect.toNat % 4 ≠ 0 → s.out.clockScale = some FALLBACK_HZ → step s = .next t →
    t.clkc.clockSourceSelect.toNat % 4 ≠ 0 → t.out.clockScale = some FALLBACK_HZ

/-! ### Rules of the whole block -/

/-- R43, R160: the invariant holds right after construction. -/
def Obligations.ConstructionMeetsTheInvariant : Prop := State.reset.Inv

/-- R43 items 1, 2, 3 and 6, and R160: from every state that meets the invariant, not only from a run's states, a step gives a state that
meets it. That the four values of the identification register are all is D10 (log 12), and that `UART.RESET` leaves the clock registers
and the clock scale is D25 (log 22) and D32 (log 23). -/
def Obligations.EveryStepKeepsTheInvariant : Prop :=
  ∀ s t : State, s.Inv → step s = .next t → t.Inv

/-- R160, R162: the operations with no offset behind them, and no others, stop the block; the CLKC never does (R93); and a stop changes no
register and no output but the diagnostic (D13, log 3). Which accesses these are rests on D14 (log 15) and, for unaligned offsets, D23
(log 20). -/
def Obligations.OnlyUnsupportedUartAccessesStopTheBlock : Prop :=
  ∀ (s t : State) (i : Instr), exec i s = .next t →
    (t.halted ≠ none ↔ unsupportedOperation i = true) ∧
    ∀ e, t.halted = some e →
      t.uart = s.uart ∧ t.clkc = s.clkc ∧ t.response = .fatal e ∧
      t.out = { s.out with diag := s.out.diag ++ [.unsupportedOffset e] }

/-- R97, R54: on an offset with no operation behind it, aligned or not (D23, log 20), the UART faults on reads and writes, and the CLKC
answers: a read returns 0 and a write is ignored. The read of 0x0C and the write of 0x14 are among the fatal accesses by D14 (log 15), and
that a fatal access answers a next state with `halted` set is log 3. -/
def Obligations.TheTwoSlavesDifferOnUnsupportedOffsets : Prop :=
  ∀ (s : State) (off : Offset) (v : Word) (rest : List Request), s.running →
    (off ∉ ([0x000, 0x004, 0x008, 0x014] : List Offset) →
      ∃ t, step { s with pending := .transaction (busSelector .uart .read off) v :: rest } = .next t ∧
        t.halted = some ⟨.uart, .read, off⟩) ∧
    (off ∉ ([0x000, 0x004, 0x008, 0x00C] : List Offset) →
      ∃ t, step { s with pending := .transaction (busSelector .uart .write off) v :: rest } = .next t ∧
        t.halted = some ⟨.uart, .write, off⟩) ∧
    (off ∉ ([0x080, 0x084, 0x088, 0x104, 0x10C] : List Offset) →
      step { s with pending := .transaction (busSelector .clkc .read off) v :: rest } =
        .next { s with pending := rest, response := .value 0 }) ∧
    (off ∉ ([0x080, 0x084, 0x104, 0x10C] : List Offset) →
      step { s with pending := .transaction (busSelector .clkc .write off) v :: rest } =
        .next { s with pending := rest, response := .done })

/-- R56: a pure read changes nothing but the answer; the idempotent writes leave the same state done twice as once; a CLKC store done twice
leaves the same registers and publishes twice; each data write transmits a byte; an unsupported access sets `halted`.
R56 says that of the reads only, and R106, R116 and R94 give it for reads and writes; that the read of 0x0C and the write of 0x14 are among
them is D14 (log 15), unaligned offsets are D23 (log 20), and that a fatal access answers a next state is log 3. -/
def Obligations.SideEffectsOfReadsAndRepeatedWrites : Prop :=
  (∀ (s t : State) (i : Instr), exec i s = .next t →
    (isPureRead i = true → t = { s with response := t.response }) ∧
    (unsupportedOperation i = true → t.halted ≠ none) ∧
    (isIdempotentWrite i = true → exec i t = .next t) ∧
    (storesClock i = true →
      ∃ r, exec i t = .next r ∧ r.clkc = t.clkc ∧ r.uart = t.uart ∧
        r.out.published = t.out.published ++ [clkValue t.clkc] ∧ r.out.clockScale = t.out.clockScale)) ∧
  (∀ (s t : State) (v : Word), exec (.uartWrData v) s = .next t → s.uart.backendAttached = true →
    t.out.tx.length = s.out.tx.length + 1) ∧
  (∃ s t : State, exec .uartRdData s = .next t ∧ t ≠ { s with response := t.response }) ∧
  ∃ s t : State, exec .uartRdIir s = .next t ∧ t ≠ { s with response := t.response }

/-- R23 to R30, R33, R35 to R38: every register changes only through the operations that its rule names. That `UART.RESET`
writes neither FIFO-control nor line-control, so that latch mode survives it, is a choice (D9, log 11), and so is that it writes no CLKC
register (D25, log 22). -/
def Obligations.RegistersChangeOnlyThroughTheirWriters : Prop :=
  ∀ (s t : State) (i : Instr), exec i s = .next t →
    (t.uart.divisorLow ≠ s.uart.divisorLow → (∃ v, i = .uartWrDivlo v) ∨ i = .uartReset) ∧
    (t.uart.divisorHigh ≠ s.uart.divisorHigh → (∃ v, i = .uartWrDivhi v) ∨ i = .uartReset) ∧
    (t.uart.interruptEnable ≠ s.uart.interruptEnable → (∃ v, i = .uartWrIer v) ∨ i = .uartReset) ∧
    (t.uart.interruptIdentification ≠ s.uart.interruptIdentification →
      i = .uartRdIir ∨ i = .uartRdData ∨ (∃ v, i = .uartWrData v) ∨ (∃ b, i = .uartRx b) ∨ i = .uartReset) ∧
    (t.uart.fifoControl ≠ s.uart.fifoControl → ∃ v, i = .uartWrFcr v) ∧
    (t.uart.lineControl ≠ s.uart.lineControl → ∃ v, i = .uartWrLcr v) ∧
    (t.uart.lineStatus ≠ s.uart.lineStatus → (∃ b, i = .uartRx b) ∨ i = .uartRdData ∨ i = .uartReset) ∧
    (t.uart.receiveBuffer ≠ s.uart.receiveBuffer → (∃ b, i = .uartRx b) ∨ i = .uartReset) ∧
    (t.clkc.cpuClockDivideConfig ≠ s.clkc.cpuClockDivideConfig → ∃ v, i = .clkcWrCpuclkdiv v) ∧
    (t.clkc.clockSourceSelect ≠ s.clkc.clockSourceSelect → ∃ v, i = .clkcWrClksrc v) ∧
    (t.clkc.pll0Config ≠ s.clkc.pll0Config → ∃ v, i = .clkcWrPll0cfg v) ∧
    (t.clkc.pll0Control ≠ s.clkc.pll0Control → ∃ v, i = .clkcWrPll0ctl v)

/-- R33, R34: no step changes the oscillator frequency or whether a backend is attached (log 4). -/
def Obligations.ParametersAreFixedAtConstruction : Prop :=
  ∀ s t : State, step s = .next t →
    t.clkc.mainOscillatorHz = s.clkc.mainOscillatorHz ∧ t.uart.backendAttached = s.uart.backendAttached

/-- R20: no operation on one unit reads or writes the other unit's state: replacing the other unit's registers, and for the UART the clock
outputs, before an operation is the same as replacing them after it. For `UART.RESET` this is also a choice (D25, log 22; D32, log 23). -/
def Obligations.TheUnitsAreIndependent : Prop :=
  ∀ (s : State) (i : Instr),
    (isClkcOperation i = false → ∀ (c : Clkc) (scale : Option Nat) (pub : List Nat),
      exec i { s with clkc := c, out := { s.out with clockScale := scale, published := pub } } =
        mapNext (fun t => { t with clkc := c, out := { t.out with clockScale := scale, published := pub } }) (exec i s)) ∧
    (isClkcOperation i = true → ∀ (u : Uart) (sent : List Byte) (pulses : Nat),
      exec i { s with uart := u, out := { s.out with tx := sent, irq := pulses } } =
        mapNext (fun t => { t with uart := u, out := { t.out with tx := sent, irq := pulses } }) (exec i s))

/-- R32, R39, R62, D32: the outputs are records of what has left the block: a step only adds to them, and at most one pulse (R168). -/
def Obligations.OutputsAreOnlyAddedTo : Prop :=
  ∀ s t : State, step s = .next t →
    s.out.tx <+: t.out.tx ∧ s.out.published <+: t.out.published ∧ s.out.diag <+: t.out.diag ∧
    s.out.irq ≤ t.out.irq ∧ t.out.irq ≤ s.out.irq + 1 ∧
    t.out.tx.length ≤ s.out.tx.length + 1 ∧ t.out.published.length ≤ s.out.published.length + 1

/-- R12, R57: in a running block every operation completes (a call of the backend if there is one, R126) and has exactly one outcome: the
fatal fault for an access with no operation behind it, a value for every other read, a truth value for the query, and done for the rest.
That the answer is held in `response` is log 2, and that a fatal access answers a next state is log 3. Which accesses are fatal rests on D14 (log 15) and,
for unaligned offsets, D23 (log 20). -/
def Obligations.EveryOperationCompletesWithOneOutcome : Prop :=
  ∀ (s : State) (i : Instr), s.running → (i.agent = .backend → s.uart.backendAttached = true) →
    ∃ t, exec i s = .next t ∧ t.pending = s.pending ∧ t.response ≠ .none ∧
      ((∃ e, t.response = .fatal e) ↔ unsupportedOperation i = true) ∧
      ((∃ w, t.response = .value w) ↔ isPureRead i = true ∨ i = .uartRdData ∨ i = .uartRdIir) ∧
      ((∃ b, t.response = .ready b) ↔ i = .uartCanrx)
end

