-- ==== Sys2Proof/Laws/Decode.lean ====
section
/-!
SUPPORT. The fields of a selector word (R72) and what a row of the operation table covers (R73), in terms of those fields.
-/

namespace Sys2Proof

theorem selectorOf_getLsbD (u : BitVec 2) (l w : Bool) (o : Offset) (i : Nat) :
    (selectorOf u l w o).getLsbD i =
      if i < 12 then o.getLsbD i else if i = 12 then w else if i = 13 then l else u.getLsbD (i - 14) := by
  unfold selectorOf
  simp only [BitVec.getLsbD_or, BitVec.getLsbD_shiftLeft, BitVec.getLsbD_setWidth, BitVec.getLsbD_ofBool]
  by_cases h1 : i < 12
  · simp [h1, show i < 16 by omega, show i < 14 by omega, show i < 13 by omega]
  · rcases Nat.lt_or_ge i 14 with h2 | h2
    · obtain rfl | rfl : i = 12 ∨ i = 13 := by omega
      · simp
      · simp
    · have ho : o.getLsbD i = false := BitVec.getLsbD_of_ge _ _ (by omega)
      by_cases h6 : i < 16
      · simp [h1, h6, ho, show ¬ i = 12 by omega, show ¬ i = 13 by omega, show ¬ i < 14 by omega,
          show ¬ i - 13 = 0 by omega, show ¬ i - 12 = 0 by omega, show i - 14 < 16 by omega]
      · have hu : u.getLsbD (i - 14) = false := BitVec.getLsbD_of_ge _ _ (by omega)
        simp [h1, h6, ho, hu, show ¬ i = 12 by omega, show ¬ i = 13 by omega]

@[simp] theorem unitField_selectorOf (u : BitVec 2) (l w : Bool) (o : Offset) :
    unitField (selectorOf u l w o) = u := by
  unfold unitField
  ext i hi
  simp [selectorOf_getLsbD, show ¬ 14 + i < 12 by omega, show ¬ 14 + i = 12 by omega, show ¬ 14 + i = 13 by omega, hi]

@[simp] theorem latchField_selectorOf (u : BitVec 2) (l w : Bool) (o : Offset) :
    latchField (selectorOf u l w o) = l := by
  simp [latchField, selectorOf_getLsbD, -BitVec.getLsbD_eq_getElem]

@[simp] theorem writeField_selectorOf (u : BitVec 2) (l w : Bool) (o : Offset) :
    writeField (selectorOf u l w o) = w := by
  simp [writeField, selectorOf_getLsbD, -BitVec.getLsbD_eq_getElem]

@[simp] theorem offsetField_selectorOf (u : BitVec 2) (l w : Bool) (o : Offset) :
    offsetField (selectorOf u l w o) = o := by
  unfold offsetField
  ext i hi
  simp [selectorOf_getLsbD, hi]

/-- A selector is the word of its four fields. -/
theorem selectorOf_fields (sel : Selector) :
    selectorOf (unitField sel) (latchField sel) (writeField sel) (offsetField sel) = sel := by
  apply BitVec.eq_of_getLsbD_eq
  intro i hi
  rw [selectorOf_getLsbD]
  unfold unitField latchField writeField offsetField
  split
  · simp_all
  · split
    · simp_all
    · split
      · simp_all
      · have h2 : i - 14 < 2 := by omega
        simp only [BitVec.getLsbD_extractLsb', h2, decide_true, Bool.true_and]
        congr 1
        omega

/-- Selectors are equal exactly when their fields are. -/
theorem selectorOf_inj {u u' : BitVec 2} {l w l' w' : Bool} {o o' : Offset} :
    selectorOf u l w o = selectorOf u' l' w' o' ↔ u = u' ∧ l = l' ∧ w = w' ∧ o = o' := by
  constructor
  · intro h
    refine ⟨?_, ?_, ?_, ?_⟩
    · simpa using congrArg unitField h
    · simpa using congrArg latchField h
    · simpa using congrArg writeField h
    · simpa using congrArg offsetField h
  · rintro ⟨rfl, rfl, rfl, rfl⟩
    rfl

/-- A mask acts on each field by itself. -/
theorem selectorOf_and (u u' : BitVec 2) (l w l' w' : Bool) (o o' : Offset) :
    selectorOf u l w o &&& selectorOf u' l' w' o' = selectorOf (u &&& u') (l && l') (w && w') (o &&& o') := by
  apply BitVec.eq_of_getLsbD_eq
  intro i hi
  simp only [BitVec.getLsbD_and, selectorOf_getLsbD]
  split_ifs <;> rfl

/-- A row covers a selector exactly when each field, masked, is the row's. -/
theorem Row.covers_selectorOf (r : Row) (u : BitVec 2) (l w : Bool) (o : Offset) :
    r.covers (selectorOf u l w o) = true ↔
      u &&& unitField r.mask = unitField r.bits ∧ (l && latchField r.mask) = latchField r.bits ∧
      (w && writeField r.mask) = writeField r.bits ∧ o &&& offsetField r.mask = offsetField r.bits := by
  unfold Row.covers
  rw [beq_iff_eq]
  conv_lhs => rw [← selectorOf_fields r.mask, ← selectorOf_fields r.bits, selectorOf_and]
  exact selectorOf_inj

theorem and_allOnes2 (u : BitVec 2) : u &&& 3#2 = u := by revert u; decide
theorem and_allOnes12 (o : Offset) : o &&& 0xFFF#12 = o := by
  rw [show (0xFFF#12) = BitVec.allOnes 12 from rfl, BitVec.and_allOnes]

/-- A full mask: every field is the row's. -/
theorem covers_full {f : Offset → Word → Instr} {u u' : BitVec 2} {l w l' w' : Bool} {o o' : Offset} :
    (Row.mk (selectorOf u' l' w' o') 0xFFFF#16 f).covers (selectorOf u l w o) =
      (decide (u = u') && l == l' && w == w' && decide (o = o')) := by
  rw [Bool.eq_iff_iff, Row.covers_selectorOf, show unitField 0xFFFF#16 = 3#2 from rfl, show latchField 0xFFFF#16 = true from rfl,
    show writeField 0xFFFF#16 = true from rfl, show offsetField 0xFFFF#16 = 0xFFF#12 from rfl, and_allOnes2, and_allOnes12]
  simp [and_assoc]

/-- Mask 0xDFFF: the row applies in both latch modes (R74). -/
theorem covers_anyLatch {f : Offset → Word → Instr} {u u' : BitVec 2} {l w w' : Bool} {o o' : Offset} :
    (Row.mk (selectorOf u' false w' o') 0xDFFF#16 f).covers (selectorOf u l w o) =
      (decide (u = u') && w == w' && decide (o = o')) := by
  rw [Bool.eq_iff_iff, Row.covers_selectorOf, show unitField 0xDFFF#16 = 3#2 from rfl, show latchField 0xDFFF#16 = false from rfl,
    show writeField 0xDFFF#16 = true from rfl, show offsetField 0xDFFF#16 = 0xFFF#12 from rfl, and_allOnes2, and_allOnes12]
  simp [and_assoc]

/-- Mask 0xD000: any offset of a direction of the UART window (R74). -/
theorem covers_uartOther {f : Offset → Word → Instr} {u u' : BitVec 2} {l w w' : Bool} {o : Offset} :
    (Row.mk (selectorOf u' false w' 0#12) 0xD000#16 f).covers (selectorOf u l w o) = (decide (u = u') && w == w') := by
  rw [Bool.eq_iff_iff, Row.covers_selectorOf, show unitField 0xD000#16 = 3#2 from rfl, show latchField 0xD000#16 = false from rfl,
    show writeField 0xD000#16 = true from rfl, show offsetField 0xD000#16 = 0#12 from rfl, and_allOnes2]
  simp

/-- Mask 0xF000: any offset of a direction of the CLKC window (R75). -/
theorem covers_clkcOther {f : Offset → Word → Instr} {u u' : BitVec 2} {l w l' w' : Bool} {o : Offset} :
    (Row.mk (selectorOf u' l' w' 0#12) 0xF000#16 f).covers (selectorOf u l w o) =
      (decide (u = u') && l == l' && w == w') := by
  rw [Bool.eq_iff_iff, Row.covers_selectorOf, show unitField 0xF000#16 = 3#2 from rfl, show latchField 0xF000#16 = true from rfl,
    show writeField 0xF000#16 = true from rfl, show offsetField 0xF000#16 = 0#12 from rfl, and_allOnes2]
  simp [and_assoc]

/-! The rows with their match words written by fields. -/

theorem uartReadRows_fields : uartReadRows =
    [⟨selectorOf 0#2 false false 0x000#12, 0xFFFF#16, fun _ _ => .uartRdData⟩,
     ⟨selectorOf 0#2 true false 0x000#12, 0xFFFF#16, fun _ _ => .uartRdDivlo⟩,
     ⟨selectorOf 0#2 false false 0x004#12, 0xFFFF#16, fun _ _ => .uartRdIer⟩,
     ⟨selectorOf 0#2 true false 0x004#12, 0xFFFF#16, fun _ _ => .uartRdDivhi⟩,
     ⟨selectorOf 0#2 false false 0x008#12, 0xDFFF#16, fun _ _ => .uartRdIir⟩,
     ⟨selectorOf 0#2 false false 0x00C#12, 0xDFFF#16, fun _ _ => .uartRdLcr⟩,
     ⟨selectorOf 0#2 false false 0x010#12, 0xDFFF#16, fun _ _ => .uartRdMcr⟩,
     ⟨selectorOf 0#2 false false 0x014#12, 0xDFFF#16, fun _ _ => .uartRdLsr⟩,
     ⟨selectorOf 0#2 false false 0x018#12, 0xDFFF#16, fun _ _ => .uartRdMsr⟩,
     ⟨selectorOf 0#2 false false 0x01C#12, 0xDFFF#16, fun _ _ => .uartRdScr⟩,
     ⟨selectorOf 0#2 false false 0x000#12, 0xD000#16, fun off _ => .uartRdOther off⟩] := rfl

theorem uartWriteRows_fields : uartWriteRows =
    [⟨selectorOf 0#2 false true 0x000#12, 0xFFFF#16, fun _ v => .uartWrData v⟩,
     ⟨selectorOf 0#2 true true 0x000#12, 0xFFFF#16, fun _ v => .uartWrDivlo v⟩,
     ⟨selectorOf 0#2 false true 0x004#12, 0xFFFF#16, fun _ v => .uartWrIer v⟩,
     ⟨selectorOf 0#2 true true 0x004#12, 0xFFFF#16, fun _ v => .uartWrDivhi v⟩,
     ⟨selectorOf 0#2 false true 0x008#12, 0xDFFF#16, fun _ v => .uartWrFcr v⟩,
     ⟨selectorOf 0#2 false true 0x00C#12, 0xDFFF#16, fun _ v => .uartWrLcr v⟩,
     ⟨selectorOf 0#2 false true 0x010#12, 0xDFFF#16, fun _ v => .uartWrMcr v⟩,
     ⟨selectorOf 0#2 false true 0x014#12, 0xDFFF#16, fun _ v => .uartWrLsr v⟩,
     ⟨selectorOf 0#2 false true 0x018#12, 0xDFFF#16, fun _ v => .uartWrMsr v⟩,
     ⟨selectorOf 0#2 false true 0x01C#12, 0xDFFF#16, fun _ v => .uartWrScr v⟩,
     ⟨selectorOf 0#2 false true 0x000#12, 0xD000#16, fun off v => .uartWrOther off v⟩] := rfl

theorem portRows_fields : portRows =
    [⟨selectorOf 2#2 false false 0x000#12, 0xFFFF#16, fun _ v => .uartRx (v.setWidth 8)⟩,
     ⟨selectorOf 2#2 false false 0x001#12, 0xFFFF#16, fun _ _ => .uartCanrx⟩,
     ⟨selectorOf 2#2 false false 0x002#12, 0xFFFF#16, fun _ _ => .uartReset⟩,
     ⟨selectorOf 2#2 false false 0x003#12, 0xFFFF#16, fun _ _ => .uartEvent⟩] := rfl

theorem clkcReadRows_fields : clkcReadRows =
    [⟨selectorOf 1#2 false false 0x080#12, 0xFFFF#16, fun _ _ => .clkcRdPll0ctl⟩,
     ⟨selectorOf 1#2 false false 0x084#12, 0xFFFF#16, fun _ _ => .clkcRdPll0cfg⟩,
     ⟨selectorOf 1#2 false false 0x088#12, 0xFFFF#16, fun _ _ => .clkcRdPll0stat⟩,
     ⟨selectorOf 1#2 false false 0x08C#12, 0xFFFF#16, fun _ _ => .clkcRdPll0feed⟩,
     ⟨selectorOf 1#2 false false 0x0A0#12, 0xFFFF#16, fun _ _ => .clkcRdPll1_0⟩,
     ⟨selectorOf 1#2 false false 0x0A4#12, 0xFFFF#16, fun _ _ => .clkcRdPll1_1⟩,
     ⟨selectorOf 1#2 false false 0x0A8#12, 0xFFFF#16, fun _ _ => .clkcRdPll1_2⟩,
     ⟨selectorOf 1#2 false false 0x0AC#12, 0xFFFF#16, fun _ _ => .clkcRdPll1_3⟩,
     ⟨selectorOf 1#2 false false 0x104#12, 0xFFFF#16, fun _ _ => .clkcRdCpuclkdiv⟩,
     ⟨selectorOf 1#2 false false 0x108#12, 0xFFFF#16, fun _ _ => .clkcRdUsbclk⟩,
     ⟨selectorOf 1#2 false false 0x10C#12, 0xFFFF#16, fun _ _ => .clkcRdClksrc⟩,
     ⟨selectorOf 1#2 false false 0x1A8#12, 0xFFFF#16, fun _ _ => .clkcRdPclksel0⟩,
     ⟨selectorOf 1#2 false false 0x1AC#12, 0xFFFF#16, fun _ _ => .clkcRdPclksel1⟩,
     ⟨selectorOf 1#2 false false 0x1C8#12, 0xFFFF#16, fun _ _ => .clkcRdClkout⟩,
     ⟨selectorOf 1#2 false false 0x000#12, 0xF000#16, fun off _ => .clkcRdOther off⟩] := rfl

theorem clkcWriteRows_fields : clkcWriteRows =
    [⟨selectorOf 1#2 false true 0x080#12, 0xFFFF#16, fun _ v => .clkcWrPll0ctl v⟩,
     ⟨selectorOf 1#2 false true 0x084#12, 0xFFFF#16, fun _ v => .clkcWrPll0cfg v⟩,
     ⟨selectorOf 1#2 false true 0x088#12, 0xFFFF#16, fun _ v => .clkcWrPll0stat v⟩,
     ⟨selectorOf 1#2 false true 0x08C#12, 0xFFFF#16, fun _ v => .clkcWrPll0feed v⟩,
     ⟨selectorOf 1#2 false true 0x0A0#12, 0xFFFF#16, fun _ v => .clkcWrPll1_0 v⟩,
     ⟨selectorOf 1#2 false true 0x0A4#12, 0xFFFF#16, fun _ v => .clkcWrPll1_1 v⟩,
     ⟨selectorOf 1#2 false true 0x0A8#12, 0xFFFF#16, fun _ v => .clkcWrPll1_2 v⟩,
     ⟨selectorOf 1#2 false true 0x0AC#12, 0xFFFF#16, fun _ v => .clkcWrPll1_3 v⟩,
     ⟨selectorOf 1#2 false true 0x104#12, 0xFFFF#16, fun _ v => .clkcWrCpuclkdiv v⟩,
     ⟨selectorOf 1#2 false true 0x108#12, 0xFFFF#16, fun _ v => .clkcWrUsbclk v⟩,
     ⟨selectorOf 1#2 false true 0x10C#12, 0xFFFF#16, fun _ v => .clkcWrClksrc v⟩,
     ⟨selectorOf 1#2 false true 0x1A8#12, 0xFFFF#16, fun _ v => .clkcWrPclksel0 v⟩,
     ⟨selectorOf 1#2 false true 0x1AC#12, 0xFFFF#16, fun _ v => .clkcWrPclksel1 v⟩,
     ⟨selectorOf 1#2 false true 0x1C8#12, 0xFFFF#16, fun _ v => .clkcWrClkout v⟩,
     ⟨selectorOf 1#2 false true 0x000#12, 0xF000#16, fun off v => .clkcWrOther off v⟩] := rfl

/-- The decoder on a word given by its fields. -/
theorem decode_selectorOf (u : BitVec 2) (l w : Bool) (o : Offset) (v : Word) :
    decode (selectorOf u l w o) v =
      (match operationRows.find? (fun r => r.covers (selectorOf u l w o)) with
      | some r => .ok (r.build o v)
      | none => .error (selectorError (selectorOf u l w o))) := by
  cases h : operationRows.find? (fun r => r.covers (selectorOf u l w o)) with
  | none => simp only [decode, h]
  | some r => simp only [decode, h, offsetField_selectorOf]

end Sys2Proof
end

