-- ==== Sys2Proof/Laws/State.lean ====
section
/-!
SUPPORT. One lemma per field per update of the state, so that no proof unfolds a record update.
-/

namespace Sys2Proof.Machine

@[simp] theorem answer_uart (v : Word) (s : State) : (answer v s).uart = s.uart := rfl
@[simp] theorem answer_clkc (v : Word) (s : State) : (answer v s).clkc = s.clkc := rfl
@[simp] theorem answer_out (v : Word) (s : State) : (answer v s).out = s.out := rfl
@[simp] theorem answer_halted (v : Word) (s : State) : (answer v s).halted = s.halted := rfl
@[simp] theorem answer_response (v : Word) (s : State) : (answer v s).response = .value v := rfl
@[simp] theorem answer_pending (v : Word) (s : State) : (answer v s).pending = s.pending := rfl

@[simp] theorem complete_uart (s : State) : (complete s).uart = s.uart := rfl
@[simp] theorem complete_clkc (s : State) : (complete s).clkc = s.clkc := rfl
@[simp] theorem complete_out (s : State) : (complete s).out = s.out := rfl
@[simp] theorem complete_halted (s : State) : (complete s).halted = s.halted := rfl
@[simp] theorem complete_response (s : State) : (complete s).response = .done := rfl
@[simp] theorem complete_pending (s : State) : (complete s).pending = s.pending := rfl

@[simp] theorem withUart_uart (u : Uart) (s : State) : (withUart u s).uart = u := rfl
@[simp] theorem withUart_clkc (u : Uart) (s : State) : (withUart u s).clkc = s.clkc := rfl
@[simp] theorem withUart_out (u : Uart) (s : State) : (withUart u s).out = s.out := rfl
@[simp] theorem withUart_halted (u : Uart) (s : State) : (withUart u s).halted = s.halted := rfl
@[simp] theorem withUart_response (u : Uart) (s : State) : (withUart u s).response = s.response := rfl
@[simp] theorem withUart_pending (u : Uart) (s : State) : (withUart u s).pending = s.pending := rfl

@[simp] theorem withClkc_uart (c : Clkc) (s : State) : (withClkc c s).uart = s.uart := rfl
@[simp] theorem withClkc_clkc (c : Clkc) (s : State) : (withClkc c s).clkc = c := rfl
@[simp] theorem withClkc_out (c : Clkc) (s : State) : (withClkc c s).out = s.out := rfl
@[simp] theorem withClkc_halted (c : Clkc) (s : State) : (withClkc c s).halted = s.halted := rfl
@[simp] theorem withClkc_response (c : Clkc) (s : State) : (withClkc c s).response = s.response := rfl
@[simp] theorem withClkc_pending (c : Clkc) (s : State) : (withClkc c s).pending = s.pending := rfl

@[simp] theorem emitTx_uart (b : Byte) (s : State) : (emitTx b s).uart = s.uart := rfl
@[simp] theorem emitTx_clkc (b : Byte) (s : State) : (emitTx b s).clkc = s.clkc := rfl
@[simp] theorem emitTx_halted (b : Byte) (s : State) : (emitTx b s).halted = s.halted := rfl
@[simp] theorem emitTx_response (b : Byte) (s : State) : (emitTx b s).response = s.response := rfl
@[simp] theorem emitTx_pending (b : Byte) (s : State) : (emitTx b s).pending = s.pending := rfl
@[simp] theorem emitTx_out_tx (b : Byte) (s : State) : (emitTx b s).out.tx = s.out.tx ++ [b] := rfl
@[simp] theorem emitTx_out_irq (b : Byte) (s : State) : (emitTx b s).out.irq = s.out.irq := rfl
@[simp] theorem emitTx_out_clockScale (b : Byte) (s : State) : (emitTx b s).out.clockScale = s.out.clockScale := rfl
@[simp] theorem emitTx_out_published (b : Byte) (s : State) : (emitTx b s).out.published = s.out.published := rfl
@[simp] theorem emitTx_out_diag (b : Byte) (s : State) : (emitTx b s).out.diag = s.out.diag := rfl

@[simp] theorem emitIrqPulse_uart (s : State) : (emitIrqPulse s).uart = s.uart := rfl
@[simp] theorem emitIrqPulse_clkc (s : State) : (emitIrqPulse s).clkc = s.clkc := rfl
@[simp] theorem emitIrqPulse_halted (s : State) : (emitIrqPulse s).halted = s.halted := rfl
@[simp] theorem emitIrqPulse_response (s : State) : (emitIrqPulse s).response = s.response := rfl
@[simp] theorem emitIrqPulse_pending (s : State) : (emitIrqPulse s).pending = s.pending := rfl
@[simp] theorem emitIrqPulse_out_tx (s : State) : (emitIrqPulse s).out.tx = s.out.tx := rfl
@[simp] theorem emitIrqPulse_out_irq (s : State) : (emitIrqPulse s).out.irq = s.out.irq + 1 := rfl
@[simp] theorem emitIrqPulse_out_clockScale (s : State) : (emitIrqPulse s).out.clockScale = s.out.clockScale := rfl
@[simp] theorem emitIrqPulse_out_published (s : State) : (emitIrqPulse s).out.published = s.out.published := rfl
@[simp] theorem emitIrqPulse_out_diag (s : State) : (emitIrqPulse s).out.diag = s.out.diag := rfl

@[simp] theorem emitClockScale_uart (v : Nat) (s : State) : (emitClockScale v s).uart = s.uart := rfl
@[simp] theorem emitClockScale_clkc (v : Nat) (s : State) : (emitClockScale v s).clkc = s.clkc := rfl
@[simp] theorem emitClockScale_halted (v : Nat) (s : State) : (emitClockScale v s).halted = s.halted := rfl
@[simp] theorem emitClockScale_response (v : Nat) (s : State) : (emitClockScale v s).response = s.response := rfl
@[simp] theorem emitClockScale_pending (v : Nat) (s : State) : (emitClockScale v s).pending = s.pending := rfl
@[simp] theorem emitClockScale_out_tx (v : Nat) (s : State) : (emitClockScale v s).out.tx = s.out.tx := rfl
@[simp] theorem emitClockScale_out_irq (v : Nat) (s : State) : (emitClockScale v s).out.irq = s.out.irq := rfl
@[simp] theorem emitClockScale_out_clockScale (v : Nat) (s : State) : (emitClockScale v s).out.clockScale = some v := rfl
@[simp] theorem emitClockScale_out_published (v : Nat) (s : State) : (emitClockScale v s).out.published = s.out.published ++ [v] := rfl
@[simp] theorem emitClockScale_out_diag (v : Nat) (s : State) : (emitClockScale v s).out.diag = s.out.diag := rfl

@[simp] theorem emitDiag_uart (d : Diag) (s : State) : (emitDiag d s).uart = s.uart := rfl
@[simp] theorem emitDiag_clkc (d : Diag) (s : State) : (emitDiag d s).clkc = s.clkc := rfl
@[simp] theorem emitDiag_halted (d : Diag) (s : State) : (emitDiag d s).halted = s.halted := rfl
@[simp] theorem emitDiag_response (d : Diag) (s : State) : (emitDiag d s).response = s.response := rfl
@[simp] theorem emitDiag_pending (d : Diag) (s : State) : (emitDiag d s).pending = s.pending := rfl
@[simp] theorem emitDiag_out_tx (d : Diag) (s : State) : (emitDiag d s).out.tx = s.out.tx := rfl
@[simp] theorem emitDiag_out_irq (d : Diag) (s : State) : (emitDiag d s).out.irq = s.out.irq := rfl
@[simp] theorem emitDiag_out_clockScale (d : Diag) (s : State) : (emitDiag d s).out.clockScale = s.out.clockScale := rfl
@[simp] theorem emitDiag_out_published (d : Diag) (s : State) : (emitDiag d s).out.published = s.out.published := rfl
@[simp] theorem emitDiag_out_diag (d : Diag) (s : State) : (emitDiag d s).out.diag = s.out.diag ++ [d] := rfl

@[simp] theorem raiseFatal_uart (unit : BusUnit) (dir : Dir) (off : Offset) (s : State) : (raiseFatal unit dir off s).uart = s.uart := rfl
@[simp] theorem raiseFatal_clkc (unit : BusUnit) (dir : Dir) (off : Offset) (s : State) : (raiseFatal unit dir off s).clkc = s.clkc := rfl
@[simp] theorem raiseFatal_halted (unit : BusUnit) (dir : Dir) (off : Offset) (s : State) : (raiseFatal unit dir off s).halted = some ⟨unit, dir, off⟩ := rfl
@[simp] theorem raiseFatal_response (unit : BusUnit) (dir : Dir) (off : Offset) (s : State) : (raiseFatal unit dir off s).response = .fatal ⟨unit, dir, off⟩ := rfl
@[simp] theorem raiseFatal_pending (unit : BusUnit) (dir : Dir) (off : Offset) (s : State) : (raiseFatal unit dir off s).pending = s.pending := rfl
@[simp] theorem raiseFatal_out_tx (unit : BusUnit) (dir : Dir) (off : Offset) (s : State) : (raiseFatal unit dir off s).out.tx = s.out.tx := rfl
@[simp] theorem raiseFatal_out_irq (unit : BusUnit) (dir : Dir) (off : Offset) (s : State) : (raiseFatal unit dir off s).out.irq = s.out.irq := rfl
@[simp] theorem raiseFatal_out_clockScale (unit : BusUnit) (dir : Dir) (off : Offset) (s : State) : (raiseFatal unit dir off s).out.clockScale = s.out.clockScale := rfl
@[simp] theorem raiseFatal_out_published (unit : BusUnit) (dir : Dir) (off : Offset) (s : State) : (raiseFatal unit dir off s).out.published = s.out.published := rfl
@[simp] theorem raiseFatal_out_diag (unit : BusUnit) (dir : Dir) (off : Offset) (s : State) : (raiseFatal unit dir off s).out.diag = s.out.diag ++ [.unsupportedOffset ⟨unit, dir, off⟩] := rfl

end Sys2Proof.Machine
end

