-- ==== Sys2Proof/Laws/Ops.lean ====
section
/-!
SUPPORT. What each shared operation can do, said once: proofs cite these and do not unfold the operations.
-/

namespace Sys2Proof.Machine

/-! ### When an operation has a step -/

/-- An operation answers a next state exactly when the block runs, and then its effect is that state. -/
theorem operate_eq_next_iff {effect : State → State} {s t : State} :
    operate effect s = .next t ↔ s.halted = none ∧ t = effect s := by
  unfold operate
  cases h : s.halted with
  | none => simp [eq_comm]
  | some e => simp

/-- A running block performs the operation. -/
theorem operate_of_running {effect : State → State} {s : State} (h : s.halted = none) :
    operate effect s = .next (effect s) := by
  simp [operate, h]

/-- A halted block has no step (R41). -/
theorem operate_of_halted {effect : State → State} {s : State} {e : FatalError} (h : s.halted = some e) :
    operate effect s = .fault (.fatal e) := by
  simp [operate, h]

/-- A call of the backend answers a next state exactly when the block runs and a backend is attached (R126). -/
theorem backendCall_eq_next_iff {effect : State → State} {s t : State} :
    backendCall effect s = .next t ↔ s.halted = none ∧ s.uart.backendAttached = true ∧ t = effect s := by
  unfold backendCall
  cases h : s.halted with
  | none => cases hb : s.uart.backendAttached <;> simp [eq_comm]
  | some e => simp

/-- With a running block and a backend the call is performed. -/
theorem backendCall_of_attached {effect : State → State} {s : State} (h : s.halted = none)
    (hb : s.uart.backendAttached = true) : backendCall effect s = .next (effect s) := by
  simp [backendCall, h, hb]

/-- Without a backend a call has no step (R126). -/
theorem backendCall_of_detached {effect : State → State} {s : State} (h : s.halted = none)
    (hb : s.uart.backendAttached = false) : backendCall effect s = .fault .noBackend := by
  simp [backendCall, h, hb]

/-- A halted block has no step, a call of the backend included (R41). -/
theorem backendCall_of_halted {effect : State → State} {s : State} {e : FatalError} (h : s.halted = some e) :
    backendCall effect s = .fault (.fatal e) := by
  simp [backendCall, h]

/-! ### Bits -/

theorem anySet_iff {v mask : Word} : anySet v mask = true ↔ v &&& mask ≠ 0 := by simp [anySet]

theorem anySet_eq_false_iff {v mask : Word} : anySet v mask = false ↔ v &&& mask = 0 := by simp [anySet]

/-- A test of a one-bit mask is that bit. -/
theorem anySet_twoPow (v : Word) (k : Nat) (hk : k < 32) : anySet v (BitVec.twoPow 32 k) = v.getLsbD k := by
  have hne : BitVec.twoPow 32 k ≠ 0 := by
    intro h
    have := congrArg (fun w : Word => w.getLsbD k) h
    simp [hk] at this
  unfold anySet
  rw [BitVec.and_twoPow]
  cases v.getLsbD k with
  | true => simpa using hne
  | false => simp

/-- Latch mode is bit 7 of line-control (R28). -/
theorem latchOn_eq (u : Uart) : u.latchOn = u.lineControl.getLsbD 7 := anySet_twoPow u.lineControl 7 (by decide)

/-- The ready bit is bit 0 of line-status (R29). -/
theorem dataReady_eq (u : Uart) : u.dataReady = u.lineStatus.getLsbD 0 := anySet_twoPow u.lineStatus 0 (by decide)

/-- The net effect of the three steps of a data write (R110). -/
theorem afterDataWrite_eq (iir : Word) : afterDataWrite iir = iir &&& ~~~(IIR_NOINT ||| IIR_THRE_PENDING) := by
  unfold afterDataWrite threPendingCleared noIntCleared threPendingSet clearBits setBits
  ext i hi
  simp only [BitVec.getElem_and, BitVec.getElem_or, BitVec.getElem_not]
  cases iir[i] <;> cases IIR_NOINT[i] <;> cases IIR_THRE_PENDING[i] <;> rfl

/-- The transmit cause is clear when the recompute of a data write looks (R43 item 3, R110). -/
theorem afterDataWrite_thre (iir : Word) : anySet (afterDataWrite iir) IIR_THRE_PENDING = false := by
  rw [anySet_eq_false_iff]
  unfold afterDataWrite threPendingCleared clearBits
  ext i hi
  simp only [BitVec.getElem_and, BitVec.getElem_not]
  cases IIR_THRE_PENDING[i] <;> simp

/-- The receive cause survives a data write (R110). -/
theorem afterDataWrite_rx (iir : Word) : afterDataWrite iir &&& IIR_RX_PENDING = iir &&& IIR_RX_PENDING := by
  rw [afterDataWrite_eq, BitVec.and_assoc]
  congr 1

/-! ### Recomputes -/

/-- `IrqRecompute` adds at most one pulse and changes nothing else (R121). -/
theorem irqRecompute_eq (s : State) :
    irqRecompute s = { s with out := { s.out with irq := if s.uart.irqCond then s.out.irq + 1 else s.out.irq } } := by
  unfold irqRecompute emitIrqPulse
  split <;> rfl

/-- `ClkRecompute` publishes the value of the registers, with a diagnostic if the source is not Internal, and changes nothing else
(R149). -/
theorem clkRecompute_eq (s : State) :
    clkRecompute s = { s with out := { s.out with
      clockScale := some (clkValue s.clkc)
      published := s.out.published ++ [clkValue s.clkc]
      diag := if s.clkc.source = CLKSRC_INTERNAL then s.out.diag
        else s.out.diag ++ [.unsupportedClockSource s.clkc.source] } } := by
  unfold clkRecompute emitClockScale emitDiag
  by_cases h : s.clkc.source = CLKSRC_INTERNAL <;> simp [h, clkValue]

/-- A CLKC store: the registers, the publication and the answer (R136 to R139). -/
theorem clkcStore_eq (c : Clkc) (s : State) :
    clkcStore c s = { s with
      clkc := c
      out := { s.out with
        clockScale := some (clkValue c)
        published := s.out.published ++ [clkValue c]
        diag := if c.source = CLKSRC_INTERNAL then s.out.diag else s.out.diag ++ [.unsupportedClockSource c.source] }
      response := .done } := by
  simp [clkcStore, complete, withClkc, clkRecompute_eq]

/-- A transmission appends the byte exactly if a backend is attached (R110, R126). -/
theorem transmit_eq (b : Byte) (s : State) :
    transmit b s = { s with out := { s.out with
      tx := if s.uart.backendAttached = true then s.out.tx ++ [b] else s.out.tx } } := by
  unfold transmit emitTx
  split <;> rfl

end Sys2Proof.Machine
end

