-- ==== Sys2Proof/Laws/Exec.lean ====
section
/-!
SUPPORT. What an operation can do, said once: `exec` answers a next state exactly when the block runs and, for the backend's calls, a
backend is attached, and the state is then the effect of the operation. What a step can do follows.
-/

namespace Sys2Proof.Machine

/-- The effect of an operation that has a step. -/
def effectOf : Instr → State → State
  | .uartRdData => fun s => answer (widenByte s.uart.receiveBuffer) (withUart
      { s.uart with
        lineStatus := clearBits s.uart.lineStatus LSR_RDR
        interruptIdentification := clearBits s.uart.interruptIdentification IIR_RX_PENDING } s)
  | .uartRdDivlo => answer 0
  | .uartRdIer => fun s => answer s.uart.interruptEnable s
  | .uartRdDivhi => fun s => answer (widenLatch s.uart.divisorHigh) s
  | .uartRdIir => fun s => answer s.uart.interruptIdentification
      (withUart { s.uart with interruptIdentification := IIR_IDLE } s)
  | .uartRdLsr => fun s => answer (setBits s.uart.lineStatus LSR_TXE) s
  | .uartRdLcr => uartUnsupported .read 0x00C
  | .uartRdMcr => uartUnsupported .read 0x010
  | .uartRdMsr => uartUnsupported .read 0x018
  | .uartRdScr => uartUnsupported .read 0x01C
  | .uartRdOther off => uartUnsupported .read off
  | .uartWrData v => fun s =>
      let sent := transmit (lowByte v) s
      complete (irqRecompute (withUart
        { sent.uart with interruptIdentification := afterDataWrite sent.uart.interruptIdentification } sent))
  | .uartWrDivlo v => fun s => complete (withUart { s.uart with divisorLow := lowLatch v } s)
  | .uartWrIer v => fun s => complete (withUart { s.uart with interruptEnable := v } s)
  | .uartWrDivhi v => fun s => complete (withUart { s.uart with divisorHigh := lowLatch v } s)
  | .uartWrFcr v => fun s => complete (withUart { s.uart with fifoControl := v } s)
  | .uartWrLcr v => fun s => complete (withUart { s.uart with lineControl := v } s)
  | .uartWrMcr _ => uartUnsupported .write 0x010
  | .uartWrLsr _ => uartUnsupported .write 0x014
  | .uartWrMsr _ => uartUnsupported .write 0x018
  | .uartWrScr _ => uartUnsupported .write 0x01C
  | .uartWrOther off _ => uartUnsupported .write off
  | .uartRx b => fun s => complete (irqRecompute (withUart
      { s.uart with
        receiveBuffer := b
        lineStatus := setBits s.uart.lineStatus LSR_RDR
        interruptIdentification := setBits s.uart.interruptIdentification IIR_RX_PENDING } s))
  | .uartCanrx => fun s => { s with response := .ready s.uart.canReceive }
  | .uartReset => fun s => complete (withUart s.uart.restoreDefaults s)
  | .uartEvent => complete
  | .clkcRdPll0ctl => fun s => answer s.clkc.pll0Control s
  | .clkcRdPll0cfg => fun s => answer s.clkc.pll0Config s
  | .clkcRdPll0stat => answer PLL0STAT_FIXED
  | .clkcRdCpuclkdiv => fun s => answer s.clkc.cpuClockDivideConfig s
  | .clkcRdClksrc => fun s => answer s.clkc.clockSourceSelect s
  | .clkcRdPll0feed | .clkcRdPll1_0 | .clkcRdPll1_1 | .clkcRdPll1_2 | .clkcRdPll1_3 => clkcReadsZero
  | .clkcRdUsbclk | .clkcRdPclksel0 | .clkcRdPclksel1 | .clkcRdClkout | .clkcRdOther _ => clkcReadsZero
  | .clkcWrPll0ctl v => fun s => clkcStore { s.clkc with pll0Control := v } s
  | .clkcWrPll0cfg v => fun s => clkcStore { s.clkc with pll0Config := v } s
  | .clkcWrCpuclkdiv v => fun s => clkcStore { s.clkc with cpuClockDivideConfig := v } s
  | .clkcWrClksrc v => fun s => clkcStore { s.clkc with clockSourceSelect := v } s
  | .clkcWrPll0stat _ | .clkcWrPll0feed _ | .clkcWrPll1_0 _ | .clkcWrPll1_1 _ | .clkcWrPll1_2 _ => clkcIgnores
  | .clkcWrPll1_3 _ | .clkcWrUsbclk _ | .clkcWrPclksel0 _ | .clkcWrPclksel1 _ | .clkcWrClkout _ => clkcIgnores
  | .clkcWrOther _ _ => clkcIgnores

/-- An operation that is no call of the backend is `operate` of its effect. -/
theorem exec_eq_operate {i : Instr} (s : State) (h : i.agent ≠ .backend) : exec i s = operate (effectOf i) s := by
  cases i <;> first | rfl | exact absurd rfl h

/-- A call of the backend is `backendCall` of its effect. -/
theorem exec_eq_backendCall {i : Instr} (s : State) (h : i.agent = .backend) :
    exec i s = backendCall (effectOf i) s := by
  cases i <;> first | rfl | simp [Instr.agent] at h

/-- Inversion of `exec`: when an operation answers a next state, and which. -/
theorem exec_eq_next_iff {i : Instr} {s t : State} :
    exec i s = .next t ↔
      s.halted = none ∧ (i.agent = .backend → s.uart.backendAttached = true) ∧ t = effectOf i s := by
  by_cases h : i.agent = .backend
  · rw [exec_eq_backendCall s h, backendCall_eq_next_iff]
    simp [h]
  · rw [exec_eq_operate s h, operate_eq_next_iff]
    simp [h]

/-- No operation is refused: each has a meaning. -/
theorem exec_ne_refused (i : Instr) (s : State) (r : Refusal) : exec i s ≠ .refused r := by
  by_cases h : i.agent = .backend
  · rw [exec_eq_backendCall s h]
    unfold backendCall
    split <;> simp
  · rw [exec_eq_operate s h]
    unfold operate
    split <;> simp

/-- An operation's effect that commutes with a change of state which leaves `halted` alone: the change before it is the change after. -/
theorem operate_mapNext {effect f : State → State} {s : State} (hh : (f s).halted = s.halted)
    (he : s.halted = none → effect (f s) = f (effect s)) : operate effect (f s) = mapNext f (operate effect s) := by
  cases h : s.halted with
  | none => rw [operate_of_running (hh.trans h), operate_of_running h, he h]; rfl
  | some e => rw [operate_of_halted (hh.trans h), operate_of_halted h]; rfl

/-- The same for a call of the backend and a change that leaves the attachment alone as well. -/
theorem backendCall_mapNext {effect f : State → State} {s : State} (hh : (f s).halted = s.halted)
    (hb : (f s).uart.backendAttached = s.uart.backendAttached)
    (he : s.halted = none → s.uart.backendAttached = true → effect (f s) = f (effect s)) :
    backendCall effect (f s) = mapNext f (backendCall effect s) := by
  cases h : s.halted with
  | some e => rw [backendCall_of_halted (hh.trans h), backendCall_of_halted h]; rfl
  | none =>
    cases hs : s.uart.backendAttached with
    | false => rw [backendCall_of_detached (hh.trans h) (hb.trans hs), backendCall_of_detached h hs]; rfl
    | true => rw [backendCall_of_attached (hh.trans h) (hb.trans hs), backendCall_of_attached h hs, he h hs]; rfl

/-- An answer looked at in 32 bits is the answer (R55). -/
theorem deliver_word (o : Host.Outcome State Fault Refusal) : deliver .word o = o := by
  cases o with
  | next s =>
    cases s with
    | mk uart clkc out halted response pending => cases response <;> rfl
  | fault f => rfl
  | refused r => rfl

/-- Handing over an answer changes only the answer. -/
theorem deliver_eq_next_iff {size : AccessSize} {o : Host.Outcome State Fault Refusal} {t : State} :
    deliver size o = .next t ↔ ∃ u, o = .next u ∧ t = { u with response := hostView size u.response } := by
  cases o <;> simp [deliver, eq_comm]

/-- Inversion of a step: nothing was presented, or the oldest request was performed, and then the next state is the effect of the
operation with its answer looked at in the size of the request. -/
theorem stepWith_eq_next_iff {m : Config.MemoryMap} {s t : State} :
    stepWith m s = .next t ↔
      s.halted = none ∧
      ((s.pending = [] ∧ t = s) ∨
        ∃ req rest sel v i u, s.pending = req :: rest ∧ requestWord m req = .ok (sel, v) ∧
          decode (fillLatch s.uart sel) v = .ok i ∧ exec i { s with pending := rest } = .next u ∧
          t = { u with response := hostView (answerSize req) u.response }) := by
  obtain ⟨uart, clkc, out, halted, response, pending⟩ := s
  cases halted with
  | some e => simp [stepWith, nextOperation]
  | none =>
    cases pending with
    | nil => simp [stepWith, nextOperation, eq_comm]
    | cons req rest =>
      cases hw : requestWord m req with
      | error e => simp [stepWith, nextOperation, hw]
      | ok w =>
        obtain ⟨sel, v⟩ := w
        cases hd : decode (fillLatch uart sel) v with
        | error e => simp [stepWith, nextOperation, performWord, hw, hd]
        | ok i => simp [stepWith, nextOperation, performWord, hw, hd, deliver_eq_next_iff]

end Sys2Proof.Machine
end

