-- ==== Sys2Proof/Laws/PerInstr.lean ====
section
/-!
SUPPORT. Statements about every operation as syntax, one lemma for each constructor of `Instr`.
-/

namespace Sys2Proof.Laws.RowOfOperation

/-- Some row of the operation table covers the selector of the operation, in either latch mode, and builds exactly the operation from the
selector's offset and the operand (R72 to R75). -/
def Statement (i : Instr) : Prop :=
  ∀ latch : Bool, ∃ r ∈ operationRows,
    r.covers (i.selector latch) = true ∧ r.build (offsetField (i.selector latch)) i.operand = i

/-- How a row is shown to be the row of an operation. -/
theorem of_row {i : Instr} (r : Row) (hr : r ∈ operationRows)
    (h : ∀ latch : Bool, r.covers (i.selector latch) = true ∧ r.build (offsetField (i.selector latch)) i.operand = i) :
    Statement i :=
  fun latch => ⟨r, hr, h latch⟩

/-- Membership in one group of rows is membership in the table. -/
theorem mem_rows {r : Row}
    (h : r ∈ uartReadRows ∨ r ∈ uartWriteRows ∨ r ∈ portRows ∨ r ∈ clkcReadRows ∨ r ∈ clkcWriteRows) :
    r ∈ operationRows := by
  simp only [operationRows, List.mem_append]
  tauto

theorem uartRdData : Statement (.uartRdData) :=
  of_row ⟨selectorOf 0#2 false false 0x000#12, 0xFFFF#16, fun _ _ => .uartRdData⟩
    (mem_rows (by simp [uartReadRows_fields])) (fun _ => by simp [Instr.selector, covers_full])

theorem uartRdDivlo : Statement (.uartRdDivlo) :=
  of_row ⟨selectorOf 0#2 true false 0x000#12, 0xFFFF#16, fun _ _ => .uartRdDivlo⟩
    (mem_rows (by simp [uartReadRows_fields])) (fun _ => by simp [Instr.selector, covers_full])

theorem uartRdIer : Statement (.uartRdIer) :=
  of_row ⟨selectorOf 0#2 false false 0x004#12, 0xFFFF#16, fun _ _ => .uartRdIer⟩
    (mem_rows (by simp [uartReadRows_fields])) (fun _ => by simp [Instr.selector, covers_full])

theorem uartRdDivhi : Statement (.uartRdDivhi) :=
  of_row ⟨selectorOf 0#2 true false 0x004#12, 0xFFFF#16, fun _ _ => .uartRdDivhi⟩
    (mem_rows (by simp [uartReadRows_fields])) (fun _ => by simp [Instr.selector, covers_full])

theorem uartRdIir : Statement (.uartRdIir) :=
  of_row ⟨selectorOf 0#2 false false 0x008#12, 0xDFFF#16, fun _ _ => .uartRdIir⟩
    (mem_rows (by simp [uartReadRows_fields])) (fun _ => by simp [Instr.selector, covers_anyLatch])

theorem uartRdLcr : Statement (.uartRdLcr) :=
  of_row ⟨selectorOf 0#2 false false 0x00C#12, 0xDFFF#16, fun _ _ => .uartRdLcr⟩
    (mem_rows (by simp [uartReadRows_fields])) (fun _ => by simp [Instr.selector, covers_anyLatch])

theorem uartRdMcr : Statement (.uartRdMcr) :=
  of_row ⟨selectorOf 0#2 false false 0x010#12, 0xDFFF#16, fun _ _ => .uartRdMcr⟩
    (mem_rows (by simp [uartReadRows_fields])) (fun _ => by simp [Instr.selector, covers_anyLatch])

theorem uartRdLsr : Statement (.uartRdLsr) :=
  of_row ⟨selectorOf 0#2 false false 0x014#12, 0xDFFF#16, fun _ _ => .uartRdLsr⟩
    (mem_rows (by simp [uartReadRows_fields])) (fun _ => by simp [Instr.selector, covers_anyLatch])

theorem uartRdMsr : Statement (.uartRdMsr) :=
  of_row ⟨selectorOf 0#2 false false 0x018#12, 0xDFFF#16, fun _ _ => .uartRdMsr⟩
    (mem_rows (by simp [uartReadRows_fields])) (fun _ => by simp [Instr.selector, covers_anyLatch])

theorem uartRdScr : Statement (.uartRdScr) :=
  of_row ⟨selectorOf 0#2 false false 0x01C#12, 0xDFFF#16, fun _ _ => .uartRdScr⟩
    (mem_rows (by simp [uartReadRows_fields])) (fun _ => by simp [Instr.selector, covers_anyLatch])

theorem uartRdOther (off : Offset) : Statement (.uartRdOther off) :=
  of_row ⟨selectorOf 0#2 false false 0x000#12, 0xD000#16, fun off _ => .uartRdOther off⟩
    (mem_rows (by simp [uartReadRows_fields])) (fun _ => by simp [Instr.selector, covers_uartOther])

theorem uartWrData (v : Word) : Statement (.uartWrData v) :=
  of_row ⟨selectorOf 0#2 false true 0x000#12, 0xFFFF#16, fun _ v => .uartWrData v⟩
    (mem_rows (by simp [uartWriteRows_fields])) (fun _ => by simp [Instr.selector, Instr.operand, covers_full])

theorem uartWrDivlo (v : Word) : Statement (.uartWrDivlo v) :=
  of_row ⟨selectorOf 0#2 true true 0x000#12, 0xFFFF#16, fun _ v => .uartWrDivlo v⟩
    (mem_rows (by simp [uartWriteRows_fields])) (fun _ => by simp [Instr.selector, Instr.operand, covers_full])

theorem uartWrIer (v : Word) : Statement (.uartWrIer v) :=
  of_row ⟨selectorOf 0#2 false true 0x004#12, 0xFFFF#16, fun _ v => .uartWrIer v⟩
    (mem_rows (by simp [uartWriteRows_fields])) (fun _ => by simp [Instr.selector, Instr.operand, covers_full])

theorem uartWrDivhi (v : Word) : Statement (.uartWrDivhi v) :=
  of_row ⟨selectorOf 0#2 true true 0x004#12, 0xFFFF#16, fun _ v => .uartWrDivhi v⟩
    (mem_rows (by simp [uartWriteRows_fields])) (fun _ => by simp [Instr.selector, Instr.operand, covers_full])

theorem uartWrFcr (v : Word) : Statement (.uartWrFcr v) :=
  of_row ⟨selectorOf 0#2 false true 0x008#12, 0xDFFF#16, fun _ v => .uartWrFcr v⟩
    (mem_rows (by simp [uartWriteRows_fields])) (fun _ => by simp [Instr.selector, Instr.operand, covers_anyLatch])

theorem uartWrLcr (v : Word) : Statement (.uartWrLcr v) :=
  of_row ⟨selectorOf 0#2 false true 0x00C#12, 0xDFFF#16, fun _ v => .uartWrLcr v⟩
    (mem_rows (by simp [uartWriteRows_fields])) (fun _ => by simp [Instr.selector, Instr.operand, covers_anyLatch])

theorem uartWrMcr (v : Word) : Statement (.uartWrMcr v) :=
  of_row ⟨selectorOf 0#2 false true 0x010#12, 0xDFFF#16, fun _ v => .uartWrMcr v⟩
    (mem_rows (by simp [uartWriteRows_fields])) (fun _ => by simp [Instr.selector, Instr.operand, covers_anyLatch])

theorem uartWrLsr (v : Word) : Statement (.uartWrLsr v) :=
  of_row ⟨selectorOf 0#2 false true 0x014#12, 0xDFFF#16, fun _ v => .uartWrLsr v⟩
    (mem_rows (by simp [uartWriteRows_fields])) (fun _ => by simp [Instr.selector, Instr.operand, covers_anyLatch])

theorem uartWrMsr (v : Word) : Statement (.uartWrMsr v) :=
  of_row ⟨selectorOf 0#2 false true 0x018#12, 0xDFFF#16, fun _ v => .uartWrMsr v⟩
    (mem_rows (by simp [uartWriteRows_fields])) (fun _ => by simp [Instr.selector, Instr.operand, covers_anyLatch])

theorem uartWrScr (v : Word) : Statement (.uartWrScr v) :=
  of_row ⟨selectorOf 0#2 false true 0x01C#12, 0xDFFF#16, fun _ v => .uartWrScr v⟩
    (mem_rows (by simp [uartWriteRows_fields])) (fun _ => by simp [Instr.selector, Instr.operand, covers_anyLatch])

theorem uartWrOther (off : Offset) (v : Word) : Statement (.uartWrOther off v) :=
  of_row ⟨selectorOf 0#2 false true 0x000#12, 0xD000#16, fun off v => .uartWrOther off v⟩
    (mem_rows (by simp [uartWriteRows_fields])) (fun _ => by simp [Instr.selector, Instr.operand, covers_uartOther])

theorem uartRx (b : Byte) : Statement (.uartRx b) :=
  of_row ⟨selectorOf 2#2 false false 0x000#12, 0xFFFF#16, fun _ v => .uartRx (v.setWidth 8)⟩
    (mem_rows (by simp [portRows_fields])) (fun _ => by simp [Instr.selector, Instr.operand, covers_full])

theorem uartCanrx : Statement (.uartCanrx) :=
  of_row ⟨selectorOf 2#2 false false 0x001#12, 0xFFFF#16, fun _ _ => .uartCanrx⟩
    (mem_rows (by simp [portRows_fields])) (fun _ => by simp [Instr.selector, covers_full])

theorem uartReset : Statement (.uartReset) :=
  of_row ⟨selectorOf 2#2 false false 0x002#12, 0xFFFF#16, fun _ _ => .uartReset⟩
    (mem_rows (by simp [portRows_fields])) (fun _ => by simp [Instr.selector, covers_full])

theorem uartEvent : Statement (.uartEvent) :=
  of_row ⟨selectorOf 2#2 false false 0x003#12, 0xFFFF#16, fun _ _ => .uartEvent⟩
    (mem_rows (by simp [portRows_fields])) (fun _ => by simp [Instr.selector, covers_full])

theorem clkcRdPll0ctl : Statement (.clkcRdPll0ctl) :=
  of_row ⟨selectorOf 1#2 false false 0x080#12, 0xFFFF#16, fun _ _ => .clkcRdPll0ctl⟩
    (mem_rows (by simp [clkcReadRows_fields])) (fun _ => by simp [Instr.selector, covers_full])

theorem clkcRdPll0cfg : Statement (.clkcRdPll0cfg) :=
  of_row ⟨selectorOf 1#2 false false 0x084#12, 0xFFFF#16, fun _ _ => .clkcRdPll0cfg⟩
    (mem_rows (by simp [clkcReadRows_fields])) (fun _ => by simp [Instr.selector, covers_full])

theorem clkcRdPll0stat : Statement (.clkcRdPll0stat) :=
  of_row ⟨selectorOf 1#2 false false 0x088#12, 0xFFFF#16, fun _ _ => .clkcRdPll0stat⟩
    (mem_rows (by simp [clkcReadRows_fields])) (fun _ => by simp [Instr.selector, covers_full])

theorem clkcRdPll0feed : Statement (.clkcRdPll0feed) :=
  of_row ⟨selectorOf 1#2 false false 0x08C#12, 0xFFFF#16, fun _ _ => .clkcRdPll0feed⟩
    (mem_rows (by simp [clkcReadRows_fields])) (fun _ => by simp [Instr.selector, covers_full])

theorem clkcRdPll1_0 : Statement (.clkcRdPll1_0) :=
  of_row ⟨selectorOf 1#2 false false 0x0A0#12, 0xFFFF#16, fun _ _ => .clkcRdPll1_0⟩
    (mem_rows (by simp [clkcReadRows_fields])) (fun _ => by simp [Instr.selector, covers_full])

theorem clkcRdPll1_1 : Statement (.clkcRdPll1_1) :=
  of_row ⟨selectorOf 1#2 false false 0x0A4#12, 0xFFFF#16, fun _ _ => .clkcRdPll1_1⟩
    (mem_rows (by simp [clkcReadRows_fields])) (fun _ => by simp [Instr.selector, covers_full])

theorem clkcRdPll1_2 : Statement (.clkcRdPll1_2) :=
  of_row ⟨selectorOf 1#2 false false 0x0A8#12, 0xFFFF#16, fun _ _ => .clkcRdPll1_2⟩
    (mem_rows (by simp [clkcReadRows_fields])) (fun _ => by simp [Instr.selector, covers_full])

theorem clkcRdPll1_3 : Statement (.clkcRdPll1_3) :=
  of_row ⟨selectorOf 1#2 false false 0x0AC#12, 0xFFFF#16, fun _ _ => .clkcRdPll1_3⟩
    (mem_rows (by simp [clkcReadRows_fields])) (fun _ => by simp [Instr.selector, covers_full])

theorem clkcRdCpuclkdiv : Statement (.clkcRdCpuclkdiv) :=
  of_row ⟨selectorOf 1#2 false false 0x104#12, 0xFFFF#16, fun _ _ => .clkcRdCpuclkdiv⟩
    (mem_rows (by simp [clkcReadRows_fields])) (fun _ => by simp [Instr.selector, covers_full])

theorem clkcRdUsbclk : Statement (.clkcRdUsbclk) :=
  of_row ⟨selectorOf 1#2 false false 0x108#12, 0xFFFF#16, fun _ _ => .clkcRdUsbclk⟩
    (mem_rows (by simp [clkcReadRows_fields])) (fun _ => by simp [Instr.selector, covers_full])

theorem clkcRdClksrc : Statement (.clkcRdClksrc) :=
  of_row ⟨selectorOf 1#2 false false 0x10C#12, 0xFFFF#16, fun _ _ => .clkcRdClksrc⟩
    (mem_rows (by simp [clkcReadRows_fields])) (fun _ => by simp [Instr.selector, covers_full])

theorem clkcRdPclksel0 : Statement (.clkcRdPclksel0) :=
  of_row ⟨selectorOf 1#2 false false 0x1A8#12, 0xFFFF#16, fun _ _ => .clkcRdPclksel0⟩
    (mem_rows (by simp [clkcReadRows_fields])) (fun _ => by simp [Instr.selector, covers_full])

theorem clkcRdPclksel1 : Statement (.clkcRdPclksel1) :=
  of_row ⟨selectorOf 1#2 false false 0x1AC#12, 0xFFFF#16, fun _ _ => .clkcRdPclksel1⟩
    (mem_rows (by simp [clkcReadRows_fields])) (fun _ => by simp [Instr.selector, covers_full])

theorem clkcRdClkout : Statement (.clkcRdClkout) :=
  of_row ⟨selectorOf 1#2 false false 0x1C8#12, 0xFFFF#16, fun _ _ => .clkcRdClkout⟩
    (mem_rows (by simp [clkcReadRows_fields])) (fun _ => by simp [Instr.selector, covers_full])

theorem clkcRdOther (off : Offset) : Statement (.clkcRdOther off) :=
  of_row ⟨selectorOf 1#2 false false 0x000#12, 0xF000#16, fun off _ => .clkcRdOther off⟩
    (mem_rows (by simp [clkcReadRows_fields])) (fun _ => by simp [Instr.selector, covers_clkcOther])

theorem clkcWrPll0ctl (v : Word) : Statement (.clkcWrPll0ctl v) :=
  of_row ⟨selectorOf 1#2 false true 0x080#12, 0xFFFF#16, fun _ v => .clkcWrPll0ctl v⟩
    (mem_rows (by simp [clkcWriteRows_fields])) (fun _ => by simp [Instr.selector, Instr.operand, covers_full])

theorem clkcWrPll0cfg (v : Word) : Statement (.clkcWrPll0cfg v) :=
  of_row ⟨selectorOf 1#2 false true 0x084#12, 0xFFFF#16, fun _ v => .clkcWrPll0cfg v⟩
    (mem_rows (by simp [clkcWriteRows_fields])) (fun _ => by simp [Instr.selector, Instr.operand, covers_full])

theorem clkcWrPll0stat (v : Word) : Statement (.clkcWrPll0stat v) :=
  of_row ⟨selectorOf 1#2 false true 0x088#12, 0xFFFF#16, fun _ v => .clkcWrPll0stat v⟩
    (mem_rows (by simp [clkcWriteRows_fields])) (fun _ => by simp [Instr.selector, Instr.operand, covers_full])

theorem clkcWrPll0feed (v : Word) : Statement (.clkcWrPll0feed v) :=
  of_row ⟨selectorOf 1#2 false true 0x08C#12, 0xFFFF#16, fun _ v => .clkcWrPll0feed v⟩
    (mem_rows (by simp [clkcWriteRows_fields])) (fun _ => by simp [Instr.selector, Instr.operand, covers_full])

theorem clkcWrPll1_0 (v : Word) : Statement (.clkcWrPll1_0 v) :=
  of_row ⟨selectorOf 1#2 false true 0x0A0#12, 0xFFFF#16, fun _ v => .clkcWrPll1_0 v⟩
    (mem_rows (by simp [clkcWriteRows_fields])) (fun _ => by simp [Instr.selector, Instr.operand, covers_full])

theorem clkcWrPll1_1 (v : Word) : Statement (.clkcWrPll1_1 v) :=
  of_row ⟨selectorOf 1#2 false true 0x0A4#12, 0xFFFF#16, fun _ v => .clkcWrPll1_1 v⟩
    (mem_rows (by simp [clkcWriteRows_fields])) (fun _ => by simp [Instr.selector, Instr.operand, covers_full])

theorem clkcWrPll1_2 (v : Word) : Statement (.clkcWrPll1_2 v) :=
  of_row ⟨selectorOf 1#2 false true 0x0A8#12, 0xFFFF#16, fun _ v => .clkcWrPll1_2 v⟩
    (mem_rows (by simp [clkcWriteRows_fields])) (fun _ => by simp [Instr.selector, Instr.operand, covers_full])

theorem clkcWrPll1_3 (v : Word) : Statement (.clkcWrPll1_3 v) :=
  of_row ⟨selectorOf 1#2 false true 0x0AC#12, 0xFFFF#16, fun _ v => .clkcWrPll1_3 v⟩
    (mem_rows (by simp [clkcWriteRows_fields])) (fun _ => by simp [Instr.selector, Instr.operand, covers_full])

theorem clkcWrCpuclkdiv (v : Word) : Statement (.clkcWrCpuclkdiv v) :=
  of_row ⟨selectorOf 1#2 false true 0x104#12, 0xFFFF#16, fun _ v => .clkcWrCpuclkdiv v⟩
    (mem_rows (by simp [clkcWriteRows_fields])) (fun _ => by simp [Instr.selector, Instr.operand, covers_full])

theorem clkcWrUsbclk (v : Word) : Statement (.clkcWrUsbclk v) :=
  of_row ⟨selectorOf 1#2 false true 0x108#12, 0xFFFF#16, fun _ v => .clkcWrUsbclk v⟩
    (mem_rows (by simp [clkcWriteRows_fields])) (fun _ => by simp [Instr.selector, Instr.operand, covers_full])

theorem clkcWrClksrc (v : Word) : Statement (.clkcWrClksrc v) :=
  of_row ⟨selectorOf 1#2 false true 0x10C#12, 0xFFFF#16, fun _ v => .clkcWrClksrc v⟩
    (mem_rows (by simp [clkcWriteRows_fields])) (fun _ => by simp [Instr.selector, Instr.operand, covers_full])

theorem clkcWrPclksel0 (v : Word) : Statement (.clkcWrPclksel0 v) :=
  of_row ⟨selectorOf 1#2 false true 0x1A8#12, 0xFFFF#16, fun _ v => .clkcWrPclksel0 v⟩
    (mem_rows (by simp [clkcWriteRows_fields])) (fun _ => by simp [Instr.selector, Instr.operand, covers_full])

theorem clkcWrPclksel1 (v : Word) : Statement (.clkcWrPclksel1 v) :=
  of_row ⟨selectorOf 1#2 false true 0x1AC#12, 0xFFFF#16, fun _ v => .clkcWrPclksel1 v⟩
    (mem_rows (by simp [clkcWriteRows_fields])) (fun _ => by simp [Instr.selector, Instr.operand, covers_full])

theorem clkcWrClkout (v : Word) : Statement (.clkcWrClkout v) :=
  of_row ⟨selectorOf 1#2 false true 0x1C8#12, 0xFFFF#16, fun _ v => .clkcWrClkout v⟩
    (mem_rows (by simp [clkcWriteRows_fields])) (fun _ => by simp [Instr.selector, Instr.operand, covers_full])

theorem clkcWrOther (off : Offset) (v : Word) : Statement (.clkcWrOther off v) :=
  of_row ⟨selectorOf 1#2 false true 0x000#12, 0xF000#16, fun off v => .clkcWrOther off v⟩
    (mem_rows (by simp [clkcWriteRows_fields])) (fun _ => by simp [Instr.selector, Instr.operand, covers_clkcOther])

end Sys2Proof.Laws.RowOfOperation
end

