-- ==== Sys2Proof/Tests/Slice0.lean ====
section
/-!
SUPPORT. Tests of the model and witnesses for the statements' hypotheses. Expected values are those of the vectors of
95_test_vectors.md (ids in the names), or the examples of the rules named.
-/

namespace Sys2Proof.Tests

open Sys2Proof Sys2Proof.Machine

/-- The construction state of the vectors: a 4 MHz oscillator and a backend. -/
def base : State := State.construct 4000000 true

/-- The construction state with the UART changed. -/
def withU (f : Uart → Uart) : State := { base with uart := f base.uart }

/-- The construction state with the CLKC changed. -/
def withC (f : Clkc → Clkc) : State := { base with clkc := f base.clkc }

/-- `i` answers a next state with the property `p`. -/
def after (i : Instr) (s : State) (p : State → Bool) : Bool :=
  match exec i s with
  | .next t => p t
  | _ => false

/-- The step answers a next state with the property `p`. -/
def afterStep (m : Config.MemoryMap) (s : State) (p : State → Bool) : Bool :=
  match stepWith m s with
  | .next t => p t
  | _ => false

/-! ### WellFormed: one ill-formed term for each check -/

theorem test_wf_refuses_named_uart_read : (Instr.uartRdOther 0x00C).wf = false := by decide
theorem test_wf_refuses_named_uart_write : (Instr.uartWrOther 0x01C 5).wf = false := by decide
theorem test_wf_refuses_named_clkc_read : (Instr.clkcRdOther 0x1C8).wf = false := by decide
theorem test_wf_refuses_named_clkc_write : (Instr.clkcWrOther 0x080 5).wf = false := by decide
theorem test_wf_accepts_other_offsets :
    (Instr.uartRdOther 0x015).wf = true ∧ (Instr.uartWrOther 0x003 0).wf = true ∧
    (Instr.clkcRdOther 0x105).wf = true ∧ (Instr.clkcWrOther 0x000 7).wf = true := by decide

/-- A map that meets the constraints of R7. -/
def map : Config.MemoryMap := ⟨0x4000C000, 0x20, 0x400FC000, 0x1000⟩

theorem test_map_accepted : map.wf = true := by decide
theorem test_map_refuses_unaligned_uart_base : (⟨0x4000C002, 0x20, 0x400FC000, 0x1000⟩ : Config.MemoryMap).wf = false := by decide
theorem test_map_refuses_unaligned_clkc_base : (⟨0x4000C000, 0x20, 0x400FC001, 0x1000⟩ : Config.MemoryMap).wf = false := by decide
theorem test_map_refuses_small_uart_window : (⟨0x4000C000, 0x1C, 0x400FC000, 0x1000⟩ : Config.MemoryMap).wf = false := by decide
theorem test_map_refuses_large_uart_window : (⟨0x4000C000, 0x1004, 0x400FC000, 0x1000⟩ : Config.MemoryMap).wf = false := by decide
theorem test_map_refuses_small_clkc_window : (⟨0x4000C000, 0x20, 0x400FC000, 0x1C8⟩ : Config.MemoryMap).wf = false := by decide
theorem test_map_refuses_overlap : (⟨0x4000C000, 0x1000, 0x4000C800, 0x1000⟩ : Config.MemoryMap).wf = false := by decide

/-! ### Decode: every row's word, written out from `unit[15:14] L[13] W[12] off[11:0]` (R72, R74, R75) -/

theorem test_decode_uart_reads :
    decode 0b0000000000000000#16 0 = .ok .uartRdData ∧ decode 0b0010000000000000#16 0 = .ok .uartRdDivlo ∧
    decode 0b0000000000000100#16 0 = .ok .uartRdIer ∧ decode 0b0010000000000100#16 0 = .ok .uartRdDivhi ∧
    decode 0b0010000000001000#16 0 = .ok .uartRdIir ∧ decode 0b0000000000001100#16 0 = .ok .uartRdLcr ∧
    decode 0b0010000000010000#16 0 = .ok .uartRdMcr ∧ decode 0b0000000000010100#16 0 = .ok .uartRdLsr ∧
    decode 0b0010000000011000#16 0 = .ok .uartRdMsr ∧ decode 0b0000000000011100#16 0 = .ok .uartRdScr ∧
    decode 0b0010000000000010#16 0 = .ok (.uartRdOther 0x002) := by decide

theorem test_decode_uart_writes :
    decode 0b0001000000000000#16 0x1F41 = .ok (.uartWrData 0x1F41) ∧
    decode 0b0011000000000000#16 0x34 = .ok (.uartWrDivlo 0x34) ∧
    decode 0b0001000000000100#16 1 = .ok (.uartWrIer 1) ∧ decode 0b0011000000000100#16 0x12 = .ok (.uartWrDivhi 0x12) ∧
    decode 0b0011000000001000#16 7 = .ok (.uartWrFcr 7) ∧ decode 0b0011000000001100#16 3 = .ok (.uartWrLcr 3) ∧
    decode 0b0001000000010000#16 3 = .ok (.uartWrMcr 3) ∧ decode 0b0011000000010100#16 0 = .ok (.uartWrLsr 0) ∧
    decode 0b0001000000011000#16 0 = .ok (.uartWrMsr 0) ∧ decode 0b0011000000011100#16 0x55 = .ok (.uartWrScr 0x55) ∧
    decode 0b0001000000000011#16 0 = .ok (.uartWrOther 0x003 0) := by decide

theorem test_decode_ports :
    decode 0b1000000000000000#16 0x1F41 = .ok (.uartRx 0x41) ∧ decode 0b1000000000000001#16 0 = .ok .uartCanrx ∧
    decode 0b1000000000000010#16 0 = .ok .uartReset ∧ decode 0b1000000000000011#16 0 = .ok .uartEvent := by decide

theorem test_decode_clkc_reads :
    decode 0b0100000010000000#16 0 = .ok .clkcRdPll0ctl ∧ decode 0b0100000010000100#16 0 = .ok .clkcRdPll0cfg ∧
    decode 0b0100000010001000#16 0 = .ok .clkcRdPll0stat ∧ decode 0b0100000010001100#16 0 = .ok .clkcRdPll0feed ∧
    decode 0b0100000010100000#16 0 = .ok .clkcRdPll1_0 ∧ decode 0b0100000010100100#16 0 = .ok .clkcRdPll1_1 ∧
    decode 0b0100000010101000#16 0 = .ok .clkcRdPll1_2 ∧ decode 0b0100000010101100#16 0 = .ok .clkcRdPll1_3 ∧
    decode 0b0100000100000100#16 0 = .ok .clkcRdCpuclkdiv ∧ decode 0b0100000100001000#16 0 = .ok .clkcRdUsbclk ∧
    decode 0b0100000100001100#16 0 = .ok .clkcRdClksrc ∧ decode 0b0100000110101000#16 0 = .ok .clkcRdPclksel0 ∧
    decode 0b0100000110101100#16 0 = .ok .clkcRdPclksel1 ∧ decode 0b0100000111001000#16 0 = .ok .clkcRdClkout ∧
    decode 0b0100000100000101#16 0 = .ok (.clkcRdOther 0x105) := by decide

theorem test_decode_clkc_writes :
    decode 0b0101000010000000#16 3 = .ok (.clkcWrPll0ctl 3) ∧
    decode 0b0101000010000100#16 0x00030009 = .ok (.clkcWrPll0cfg 0x00030009) ∧
    decode 0b0101000010001000#16 0 = .ok (.clkcWrPll0stat 0) ∧ decode 0b0101000010001100#16 0xAA = .ok (.clkcWrPll0feed 0xAA) ∧
    decode 0b0101000010100000#16 1 = .ok (.clkcWrPll1_0 1) ∧ decode 0b0101000010100100#16 1 = .ok (.clkcWrPll1_1 1) ∧
    decode 0b0101000010101000#16 1 = .ok (.clkcWrPll1_2 1) ∧ decode 0b0101000010101100#16 1 = .ok (.clkcWrPll1_3 1) ∧
    decode 0b0101000100000100#16 3 = .ok (.clkcWrCpuclkdiv 3) ∧ decode 0b0101000100001000#16 1 = .ok (.clkcWrUsbclk 1) ∧
    decode 0b0101000100001100#16 1 = .ok (.clkcWrClksrc 1) ∧ decode 0b0101000110101000#16 9 = .ok (.clkcWrPclksel0 9) ∧
    decode 0b0101000110101100#16 9 = .ok (.clkcWrPclksel1 9) ∧ decode 0b0101000111001000#16 9 = .ok (.clkcWrClkout 9) ∧
    decode 0b0101000100000101#16 7 = .ok (.clkcWrOther 0x105 7) := by decide

theorem test_VD12_refused :
    decode 0xC000 0 = .error .unitNotUsed ∧ decode 0x8004 0 = .error .noSuchPort ∧
    decode 0x9000 0 = .error .portWritten ∧ decode 0xA000 0 = .error .latchBitOutsideUartWindow ∧
    decode 0x6104 0 = .error .latchBitOutsideUartWindow := by decide

theorem test_decodeTableWord :
    decodeTableWord 48 0x000300095084 = some (.clkcWrPll0cfg 0x00030009) ∧
    decodeTableWord 16 0x000300095084 = some (.clkcWrPll0cfg 0) ∧ decodeTableWord 16 0xC000 = none := by decide

/-! ### Presenting a table word as the first operation -/

theorem test_withFetchWord_latch :
    nextOperation Config.memoryMap (base.withFetchWord 16 0x2004) =
      .perform .uartRdDivhi { base with uart := { base.uart with lineControl := 0x80 } } .word := rfl

theorem test_withFetchWord_backend :
    afterStep map ((State.construct 0 false).withFetchWord 48 0x000000418000)
      (fun t => t.uart.receiveBuffer == 0x41 && t.uart.lineStatus == 0x21) = true := by decide

theorem test_withFetchWord_at_reset : ∃ t, step (State.reset.withFetchWord 48 0x000300095084) = .next t := ⟨_, rfl⟩

/-! ### UART reads (VR) -/

theorem test_VR1_data :
    after .uartRdData (withU fun u => { u with receiveBuffer := 0x41, lineStatus := 0x21, interruptIdentification := 0x05 })
      (fun t => t.response == .value 0x41 && t.uart.lineStatus == 0x20 && t.uart.interruptIdentification == 0x01 &&
        t.uart.receiveBuffer == 0x41) = true := by decide
theorem test_VR3_data_zero_extended :
    after .uartRdData (withU fun u => { u with receiveBuffer := 0xFF, lineStatus := 0x21, interruptIdentification := 0x04 })
      (fun t => t.response == .value 0x000000FF && t.uart.interruptIdentification == 0x00) = true := by decide
theorem test_VR4_divlo :
    after .uartRdDivlo (withU fun u => { u with lineControl := 0x80, divisorLow := 0x1234 })
      (fun t => t.response == .value 0 && t.uart.divisorLow == 0x1234) = true := by decide
theorem test_VR5_ier :
    after .uartRdIer (withU fun u => { u with interruptEnable := 0xDEADBEEF })
      (fun t => t.response == .value 0xDEADBEEF) = true := by decide
theorem test_VR6_divhi :
    after .uartRdDivhi (withU fun u => { u with lineControl := 0x80, divisorHigh := 0xFFFF, interruptEnable := 3 })
      (fun t => t.response == .value 0x0000FFFF) = true := by decide
theorem test_VR7_iir :
    after .uartRdIir (withU fun u => { u with interruptIdentification := 0x05, lineStatus := 0x21 })
      (fun t => t.response == .value 0x05 && t.uart.interruptIdentification == 0x01 && t.uart.lineStatus == 0x21 &&
        !t.uart.canReceive) = true := by decide
theorem test_VR8_iir_after_data_write :
    after .uartRdIir (withU fun u => { u with interruptIdentification := 0x00 })
      (fun t => t.response == .value 0x00 && t.uart.interruptIdentification == 0x01) = true := by decide
theorem test_VR9_lsr : after .uartRdLsr base (fun t => t.response == .value 0x20) = true := by decide
theorem test_VR11_lsr_forced :
    after .uartRdLsr (withU fun u => { u with lineStatus := 0x01 })
      (fun t => t.response == .value 0x21 && t.uart.lineStatus == 0x01) = true := by decide
theorem test_VR12_lcr :
    after .uartRdLcr base (fun t => t.halted == some ⟨.uart, .read, 0x00C⟩ && t.uart == base.uart) = true := by decide
theorem test_VR13_mcr : after .uartRdMcr base (fun t => t.halted == some ⟨.uart, .read, 0x010⟩) = true := by decide
theorem test_VR13_msr : after .uartRdMsr base (fun t => t.halted == some ⟨.uart, .read, 0x018⟩) = true := by decide
theorem test_F1_scr :
    after .uartRdScr
      { withU (fun u => { u with interruptEnable := 1, interruptIdentification := 0 }) with
        out := { base.out with tx := [0x41] } }
      (fun t => t.halted == some ⟨.uart, .read, 0x01C⟩ && t.out.tx == [0x41] && t.uart.interruptIdentification == 0 &&
        t.response == .fatal ⟨.uart, .read, 0x01C⟩ && t.out.irq == 0) = true := by decide
theorem test_VR13_other : after (.uartRdOther 0x015) base (fun t => t.halted == some ⟨.uart, .read, 0x015⟩) = true := by decide

/-! ### UART writes (VW) -/

theorem test_VW2_data :
    after (.uartWrData 0x1F41) (withU fun u => { u with interruptEnable := 2 })
      (fun t => t.out.tx == [0x41] && t.out.irq == 0 && t.uart.interruptIdentification == 0x00) = true := by decide
theorem test_VW3_data_pulses_for_the_byte :
    after (.uartWrData 0x58)
      (withU fun u => { u with interruptEnable := 1, interruptIdentification := 0x05, lineStatus := 0x21 })
      (fun t => t.out.tx == [0x58] && t.out.irq == 1 && t.uart.interruptIdentification == 0x04) = true := by decide
theorem test_VW1_steps :
    threPendingSet 0x01 = 0x03 ∧ noIntCleared 0x03 = 0x02 ∧ threPendingCleared 0x02 = 0x00 := by decide
theorem test_VW5_data_without_backend :
    after (.uartWrData 0x41) (State.construct 4000000 false)
      (fun t => t.out.tx == [] && t.uart.interruptIdentification == 0x00) = true := by decide
theorem test_VW6_divlo :
    after (.uartWrDivlo 0xABCD1234) (withU fun u => { u with lineControl := 0x80 })
      (fun t => t.uart.divisorLow == 0x1234 && t.out.tx == []) = true := by decide
theorem test_VW7_divhi :
    after (.uartWrDivhi 0x00010002) (withU fun u => { u with lineControl := 0x80, interruptEnable := 3 })
      (fun t => t.uart.divisorHigh == 0x0002 && t.uart.interruptEnable == 3) = true := by decide
theorem test_VW8_ier :
    after (.uartWrIer 0x01) (withU fun u => { u with interruptIdentification := 0x05 })
      (fun t => t.uart.interruptEnable == 0x01 && t.out.irq == 0) = true := by decide
theorem test_VW9_ier_unmasked :
    after (.uartWrIer 0xFFFFFFFF) base (fun t => t.uart.interruptEnable == 0xFFFFFFFF) = true := by decide
theorem test_VW10_fcr :
    after (.uartWrFcr 0x07) (withU fun u => { u with lineStatus := 0x21, interruptIdentification := 0x05 })
      (fun t => t.uart.fifoControl == 0x07 && t.uart.lineStatus == 0x21 && t.uart.interruptIdentification == 0x05) = true := by
  decide
theorem test_R115_lcr :
    after (.uartWrLcr 0x83) base
      (fun t => t.uart == { base.uart with lineControl := 0x83 } && t.response == .done) = true := by decide
theorem test_VW13_mcr : after (.uartWrMcr 3) base (fun t => t.halted == some ⟨.uart, .write, 0x010⟩) = true := by decide
theorem test_VW12_lsr :
    after (.uartWrLsr 0) base (fun t => t.halted == some ⟨.uart, .write, 0x014⟩ && t.uart == base.uart) = true := by decide
theorem test_VW13_msr : after (.uartWrMsr 0) base (fun t => t.halted == some ⟨.uart, .write, 0x018⟩) = true := by decide
theorem test_VW13_scr :
    after (.uartWrScr 0x55) base (fun t => t.halted == some ⟨.uart, .write, 0x01C⟩ && t.out.tx == []) = true := by decide
theorem test_VW13_other :
    after (.uartWrOther 0x003 0) base (fun t => t.halted == some ⟨.uart, .write, 0x003⟩) = true := by decide

/-! ### Interrupt, ports and reset (VI, X) -/

theorem test_VI2_rx :
    after (.uartRx 0x41) (withU fun u => { u with interruptEnable := 1 })
      (fun t => t.uart.receiveBuffer == 0x41 && t.uart.lineStatus == 0x21 && t.uart.interruptIdentification == 0x05 &&
        t.out.irq == 1) = true := by decide
theorem test_VI3_rx_wrong_enable :
    after (.uartRx 0x41) (withU fun u => { u with interruptEnable := 2 }) (fun t => t.out.irq == 0) = true := by decide
theorem test_VI6_canrx : after .uartCanrx base (fun t => t.response == .ready true) = true := by decide
theorem test_VI7_canrx_waiting :
    after .uartCanrx (withU fun u => { u with lineStatus := 0x21 }) (fun t => t.response == .ready false) = true := by decide
theorem test_VI10_event : after .uartEvent base (fun t => t == { base with response := .done }) = true := by decide
theorem test_no_backend_no_step : exec .uartEvent (State.construct 4000000 false) = .fault .noBackend := rfl
/-- The condition for an enable and an identification value. -/
def cond (ier iir : Word) : Bool :=
  ({ base.uart with interruptEnable := ier, interruptIdentification := iir } : Uart).irqCond
theorem test_irqCond_table :
    [cond 0 0, cond 0 2, cond 0 4, cond 0 6, cond 1 0, cond 1 2, cond 1 4, cond 1 6] =
      [false, false, false, false, false, false, true, true] ∧
    [cond 2 0, cond 2 2, cond 2 4, cond 2 6, cond 3 0, cond 3 2, cond 3 4, cond 3 6] =
      [false, true, false, true, false, true, true, true] := by decide
theorem test_X1_reset :
    after .uartReset
      { withU (fun u => { u with
          divisorLow := 0x1234, divisorHigh := 0x5678, interruptEnable := 1, interruptIdentification := 5, fifoControl := 7,
          lineControl := 0x83, lineStatus := 0x21, receiveBuffer := 0x55 }) with
        out := { base.out with irq := 1 } }
      (fun t => t.uart == { base.uart with fifoControl := 7, lineControl := 0x83 } && t.out.irq == 1 && t.uart.canReceive)
      = true := by decide
theorem test_F2_halted :
    exec .uartReset { base with halted := some ⟨.uart, .read, 0x01C⟩ } = .fault (.fatal ⟨.uart, .read, 0x01C⟩) ∧
    exec (.clkcWrPll0cfg 1) { base with halted := some ⟨.uart, .read, 0x01C⟩ } = .fault (.fatal ⟨.uart, .read, 0x01C⟩) :=
  ⟨rfl, rfl⟩

/-! ### Clock controller (VA, K) -/

theorem test_VA1_reads :
    after .clkcRdPll0ctl base (fun t => t.response == .value 0 && t.out.clockScale == none) = true ∧
    after .clkcRdPll0cfg (withC fun c => { c with pll0Config := 0x00030009 }) (fun t => t.response == .value 0x00030009) = true ∧
    after .clkcRdCpuclkdiv (withC fun c => { c with cpuClockDivideConfig := 0x103 }) (fun t => t.response == .value 0x103) = true ∧
    after .clkcRdClksrc (withC fun c => { c with clockSourceSelect := 1 })
      (fun t => t.response == .value 1 && t.out.diag == []) = true := by decide
theorem test_VA2_stat : after .clkcRdPll0stat base (fun t => t.response == .value 0x07000000) = true := by decide
theorem test_VA7_reads_as_zero :
    ([.clkcRdPll0feed, .clkcRdPll1_0, .clkcRdPll1_1, .clkcRdPll1_2, .clkcRdPll1_3, .clkcRdUsbclk, .clkcRdPclksel0,
        .clkcRdPclksel1, .clkcRdClkout, .clkcRdOther 0x086] : List Instr).all
      (fun i => after i base (fun t => t == { base with response := .value 0 })) = true := by decide
theorem test_VA5_ignored :
    ([.clkcWrPll0stat 0, .clkcWrPll0feed 0xAA, .clkcWrPll1_0 1, .clkcWrPll1_1 1, .clkcWrPll1_2 1, .clkcWrPll1_3 1,
        .clkcWrUsbclk 1, .clkcWrPclksel0 0xFFFFFFFF, .clkcWrPclksel1 1, .clkcWrClkout 1, .clkcWrOther 0x105 7] : List Instr).all
      (fun i => after i base (fun t => t == { base with response := .done })) = true := by decide
theorem test_VA4_cpuclkdiv :
    after (.clkcWrCpuclkdiv 0xFFFFFF03) base
      (fun t => t.clkc.cpuClockDivideConfig == 0xFFFFFF03 && t.out.clockScale == some 2000000) = true := by decide
theorem test_VA9_pll0ctl :
    after (.clkcWrPll0ctl 3) base (fun t => t.clkc.pll0Control == 3 && t.out.published == [8000000]) = true := by decide
theorem test_VA10_republished :
    after (.clkcWrPll0ctl 3)
      { withC (fun c => { c with pll0Control := 3 }) with
        out := { base.out with clockScale := some 8000000, published := [8000000] } }
      (fun t => t.out.published == [8000000, 8000000]) = true := by decide
theorem test_S7_pll0cfg :
    after (.clkcWrPll0cfg 0x00030009) base
      (fun t => t.clkc.pll0Config == 0x00030009 && t.out.clockScale == some 20000000 && t.out.diag == []) = true := by decide
theorem test_K8_clksrc :
    after (.clkcWrClksrc 1) (withC fun c => { c with pll0Config := 0x00030009 })
      (fun t => t.out.clockScale == some 100000000 && t.out.diag == [.unsupportedClockSource 1] && t.response == .done) = true := by
  decide
theorem test_K11_clksrc_low_bits :
    after (.clkcWrClksrc 4) (withC fun c => { c with pll0Config := 0x00030009 })
      (fun t => t.out.clockScale == some 20000000 && t.out.diag == []) = true := by decide
theorem test_K_formula :
    clkValue ⟨4000000, 0xFF, 0, 0x00030009, 0⟩ = 78125 ∧ clkValue ⟨4000000, 0, 0, 0x00020000, 0⟩ = 2666666 ∧
    clkValue ⟨4000000, 0x103, 0, 0x00030009, 0⟩ = 5000000 ∧ clkValue ⟨1000001, 6, 0, 0x00020004, 0⟩ = 476190 := by decide
theorem test_K_corners :
    clkValue ⟨4000000, 0, 0, 0x0000FFFF, 0⟩ = 524288000000 ∧ clkValue ⟨4000000, 0xFF, 0, 0xFFFF0000, 0⟩ = 0 ∧
    clkValue ⟨12000000, 0xFF, 0, 0xFFFF0000, 0⟩ = 1 ∧ clkValue ⟨4000000, 0xFF, 2, 0xFFFFFFFF, 0⟩ = 100000000 := by decide

/-! ### The step and the host's side -/

theorem test_VD7_old_mode_decodes :
    afterStep map { withU (fun u => { u with lineControl := 0x80 }) with pending := [.transaction 0x100C 3] }
      (fun t => t.uart.lineControl == 3 && t.pending == []) = true := by decide
theorem test_VD4_low_bits_do_not_select :
    afterStep map { withU (fun u => { u with lineControl := 0x7F }) with pending := [.transaction 0x3000 0x55] }
      (fun t => t.out.tx == [0x55]) = true := by decide
theorem test_host_store_zero_extended :
    afterStep map { base with pending := [.store 0x4000C004 .byte 0xABCD] }
      (fun t => t.uart.interruptEnable == 0xCD) = true := by decide
theorem test_host_load_low_bits :
    afterStep map { withC (fun c => { c with pll0Config := 0xFF0390A9 }) with pending := [.load 0x400FC084 .halfword] }
      (fun t => t.response == .value 0x90A9) = true := by decide
theorem test_lanes :
    byteLane 0 0x11223344 = 0x44 ∧ byteLane 1 0x11223344 = 0x33 ∧ byteLane 3 0x11223344 = 0x11 := by decide

/-! ### Witnesses: for each statement with hypotheses, a state and operands that meet them, each clause at a boundary value -/

/-- The construction state without a backend. -/
def detached : State := State.construct 4000000 false

/-- A stopped block. -/
def stopped : State := { base with halted := some ⟨.uart, .read, 0x01C⟩ }

/-- A byte is waiting and its cause pending. -/
def waiting : State := withU fun u => { u with receiveBuffer := 0x41, lineStatus := 0x21, interruptIdentification := 0x05 }

theorem base_running : base.running := rfl

theorem base_inv : base.Inv :=
  ⟨⟨show (0x20 : Word) ∈ lsrLegalValues by decide, show (0x01 : Word) ∈ iirLegalValues by decide,
      show anySet 0x01 IIR_THRE_PENDING = false by decide⟩,
    fun h => absurd h (show ¬ anySet 0x01 IIR_RX_PENDING = true by decide), ⟨.inl ⟨rfl, rfl⟩, rfl⟩,
    fun _ h => nomatch h⟩

theorem witness_DecodeOfEncodedOperation :
    (Instr.uartRdOther 0xFFF).wf = true ∧ (Instr.clkcWrOther 0x000 0xFFFFFFFF).wf = true ∧ (Instr.uartRx 0xFF).wf = true := by
  decide
theorem witness_DecodedOperationReencodesToItsSelector :
    decode 0x2014 7 = .ok .uartRdLsr ∧ decode 0x0FFF 7 = .ok (.uartRdOther 0xFFF) := by decide
theorem witness_SelectorRefusedExactlyWhenNoRowCoversIt :
    (∃ e, decode 0x8004 0 = .error e) ∧ (∃ e, decode 0x9003 0 = .error e) ∧ (∃ e, decode 0x6000 0 = .error e) ∧
    (∃ e, decode 0xFFFF 0 = .error e) ∧ decode 0x8003 0 = .ok .uartEvent :=
  ⟨⟨_, rfl⟩, ⟨_, rfl⟩, ⟨_, rfl⟩, ⟨_, rfl⟩, rfl⟩
theorem witness_DecoderFillsInTheStoredLatchBit : unitField 0x3FFF = 0 ∧ unitField 0x4000 ≠ 0 ∧ unitField 0x8000 ≠ 0 := by decide
theorem witness_StepPerformsTheDecodedOperation :
    ({ base with pending := [.transaction 0x2014 0] } : State).running ∧ decode (fillLatch base.uart 0x2014) 0 = .ok .uartRdLsr :=
  ⟨rfl, rfl⟩
theorem witness_StepOnABusTransactionIsTheContractAccess :
    ({ base with pending := [.transaction (busSelector .clkc .write 0xFFF) 5] } : State).running ∧
    ({ stopped with pending := [.transaction (busSelector .uart .read 0x000) 0] } : State).halted = some ⟨.uart, .read, 0x01C⟩ :=
  ⟨rfl, rfl⟩
theorem witness_StepWithNothingPresentedChangesNothing : base.running ∧ base.pending = [] := ⟨rfl, rfl⟩
theorem witness_HaltedBlockHasNoStep : stopped.halted = some ⟨.uart, .read, 0x01C⟩ := rfl
theorem witness_StepRefusesAWordThatSpellsNoOperation :
    ({ base with pending := [.transaction 0xC000 0] } : State).running ∧
    decode (fillLatch base.uart 0xC000) 0 = .error .unitNotUsed ∧ decode (fillLatch base.uart 0x8004) 0 = .error .noSuchPort :=
  ⟨rfl, rfl, rfl⟩
theorem witness_StepTakesExactlyTheOldestRequest :
    ∃ t, step { base with pending := [.transaction 0x0014 0, .transaction 0x8002 0] } = .next t := ⟨_, rfl⟩
theorem witness_HostAccessInAWindowIsOneBusAccess :
    map.wf = true ∧ base.running ∧ AccessSize.halfword ≠ .wider ∧
    route map 0x4000C000 = some (.uart, 0x000) ∧ route map 0x4000C01F = some (.uart, 0x01F) ∧
    route map 0x400FC000 = some (.clkc, 0x000) ∧ route map 0x400FCFFF = some (.clkc, 0xFFF) :=
  ⟨by decide, rfl, by decide, by decide, by decide, by decide, by decide⟩
theorem witness_HostAccessTheBlockNeverSeesIsRefused :
    map.wf = true ∧ base.running ∧ AccessSize.byte ≠ .wider ∧
    route map 0x4000BFFF = none ∧ route map 0x4000C020 = none ∧ route map 0x400FBFFF = none ∧ route map 0x400FD000 = none :=
  ⟨by decide, rfl, by decide, by decide, by decide, by decide, by decide⟩
theorem witness_DataReadReturnsTheByteAndFreesTheBuffer : waiting.running := rfl
theorem witness_DivisorLowReadsAsZero : waiting.running := rfl
theorem witness_InterruptEnableAndDivisorHighReadBack : waiting.running := rfl
theorem witness_IdentificationReadReturnsTheValueThenResetsIt : waiting.running := rfl
theorem witness_LineStatusReadForcesTransmitEmpty :
    base.running ∧ base.uart.lineStatus ∈ lsrLegalValues ∧ base.uart.canReceive = true ∧
    waiting.running ∧ waiting.uart.lineStatus ∈ lsrLegalValues ∧ waiting.uart.canReceive = false :=
  ⟨rfl, show (0x20 : Word) ∈ lsrLegalValues by decide, by decide, rfl, show (0x21 : Word) ∈ lsrLegalValues by decide, by decide⟩
theorem witness_UnsupportedUartReadStopsTheBlock : base.running := rfl
theorem witness_DataWriteTransmitsAndPulsesOnlyForAPendingByte : waiting.running ∧ detached.running := ⟨rfl, rfl⟩
theorem witness_DivisorLatchWritesKeepSixteenBits : base.running := rfl
theorem witness_InterruptEnableWriteStoresWithoutAPulse : waiting.running := rfl
theorem witness_FifoControlIsStoredAndNeverReadBack :
    base.running ∧ ∀ w, Instr.uartRdIir ≠ .uartWrFcr w := ⟨rfl, fun _ => nofun⟩
theorem witness_LineControlWriteSetsTheLatchMode :
    base.running ∧ (0x80 : Word).getLsbD 7 = true ∧ (0x7F : Word).getLsbD 7 = false := ⟨rfl, rfl, rfl⟩
theorem witness_UnsupportedUartWriteStopsTheBlock : base.running := rfl
theorem witness_IngressStoresTheByteAndPulsesIfEnabled : base.running ∧ base.uart.backendAttached = true := ⟨rfl, rfl⟩
theorem witness_ReadinessQueryAnswersReadyBitClear :
    base.running ∧ base.uart.backendAttached = true ∧ (∃ t, exec (.uartRx 0x41) base = .next t) ∧
    (∃ t, exec .uartRdData base = .next t) ∧ (∃ t, exec .uartReset base = .next t) ∧
    waiting.uart.backendAttached = true ∧ waiting.uart.canReceive = false ∧ ∃ t, exec .uartRdIir waiting = .next t :=
  ⟨rfl, rfl, ⟨_, rfl⟩, ⟨_, rfl⟩, ⟨_, rfl⟩, rfl, rfl, ⟨_, rfl⟩⟩
theorem witness_EventNotifierDoesNothing : base.running ∧ base.uart.backendAttached = true := ⟨rfl, rfl⟩
theorem witness_WithoutABackendOnlyItsCallsAndTransmissionDiffer :
    detached.running ∧ detached.uart.backendAttached = false ∧ Instr.uartReset.agent ≠ .backend ∧
    ∀ v, Instr.uartReset ≠ .uartWrData v := ⟨rfl, rfl, by decide, fun _ => nofun⟩
theorem witness_IdentificationRegisterFollowsTheStateTable :
    base.uart.Legal ∧ ∃ t, exec (.uartWrData 0x41) base = .next t := ⟨base_inv.uart, ⟨_, rfl⟩⟩
theorem witness_StatusFlagsChangeOnlyByTheirOperations :
    (∃ t, exec (.uartRx 0x41) base = .next t ∧ anySet base.uart.lineStatus LSR_RDR = false ∧
      anySet t.uart.lineStatus LSR_RDR = true ∧ anySet base.uart.interruptIdentification IIR_RX_PENDING = false ∧
      anySet t.uart.interruptIdentification IIR_RX_PENDING = true) ∧
    (∃ t, exec .uartRdData waiting = .next t ∧ anySet waiting.uart.lineStatus LSR_RDR = true ∧
      anySet t.uart.lineStatus LSR_RDR = false ∧ anySet waiting.uart.lineStatus LSR_TXE = true ∧
      anySet waiting.uart.interruptIdentification IIR_RX_PENDING = true ∧
      anySet t.uart.interruptIdentification IIR_RX_PENDING = false) ∧
    (∃ t, exec (.uartWrData 0x41) base = .next t ∧ anySet base.uart.interruptIdentification IIR_NOINT = true ∧
      anySet t.uart.interruptIdentification IIR_NOINT = false ∧
      anySet base.uart.interruptIdentification IIR_THRE_PENDING = false) ∧
    (∃ t, exec .uartReset (withU fun u => { u with lineStatus := 0, interruptIdentification := 0 }) = .next t ∧
      anySet t.uart.lineStatus LSR_TXE = true ∧ anySet t.uart.interruptIdentification IIR_NOINT = true) :=
  ⟨⟨_, rfl, rfl, rfl, rfl, rfl⟩, ⟨_, rfl, rfl, rfl, rfl, rfl, rfl⟩, ⟨_, rfl, rfl, rfl, rfl⟩, ⟨_, rfl, rfl, rfl⟩⟩
theorem witness_ResetRestoresTheSixDefaults :
    waiting.running ∧ (∃ t, exec .uartReset waiting = .next t) ∧ waiting.uart.fifoControl = 0 ∧ waiting.uart.lineControl = 0 :=
  ⟨rfl, ⟨_, rfl⟩, rfl, rfl⟩
theorem witness_ClockRegistersReadBackWhole :
    base.running ∧ (∃ t, exec (.clkcWrCpuclkdiv 0xFFFFFFFF) base = .next t) ∧ (∃ t, exec (.clkcWrClksrc 3) base = .next t) ∧
    (∃ t, exec (.clkcWrPll0cfg 0) base = .next t) ∧ ∃ t, exec (.clkcWrPll0ctl 1) base = .next t :=
  ⟨rfl, ⟨_, rfl⟩, ⟨_, rfl⟩, ⟨_, rfl⟩, ⟨_, rfl⟩⟩
theorem witness_Pll0StatusReadsTheFixedPattern : base.running := rfl
theorem witness_OtherClockReadsReturnZero :
    base.running ∧ (0x08C : Offset) ∉ ([0x080, 0x084, 0x088, 0x104, 0x10C] : List Offset) ∧
    (0xFFF : Offset) ∉ ([0x080, 0x084, 0x088, 0x104, 0x10C] : List Offset) := ⟨rfl, by decide, by decide⟩
theorem witness_ClockStoresRecomputeAndPublish : base.running := rfl
theorem witness_PllFeedIsAcceptedWithoutEffect : base.running ∧ ∃ t, exec (.clkcWrPll0feed 0xAA) base = .next t := ⟨rfl, ⟨_, rfl⟩⟩
theorem witness_OtherClockWritesChangeNothing :
    base.running ∧ (0x088 : Offset) ∉ ([0x080, 0x084, 0x08C, 0x104, 0x10C] : List Offset) ∧
    (0x105 : Offset) ∉ ([0x080, 0x084, 0x08C, 0x104, 0x10C] : List Offset) := ⟨rfl, by decide, by decide⟩
/-- K18, K19: at 4 MHz the last product inside the agreement band and the first one outside it. -/
theorem witness_ClockValueAgreesWithFixedWidthArithmetic :
    (⟨4000000, 0, 0, 0x0000010B, 0⟩ : Clkc).source = CLKSRC_INTERNAL ∧ 2 * (0x10B + 1) * 4000000 < 2 ^ 31 ∧
    ¬ 2 * (0x10C + 1) * 4000000 < 2 ^ 31 ∧ 2 * (0x10C + 1) * 4000000 < 2 ^ 32 := by decide
theorem witness_ClockValueRange :
    (⟨4000000, 0xFF, 0, 0xFFFF0000, 0⟩ : Clkc).source = CLKSRC_INTERNAL ∧ (⟨0, 0, 4, 0, 0⟩ : Clkc).source = CLKSRC_INTERNAL ∧
    8388607 < 8388608 := by decide
theorem witness_ClockScaleIsPublishedExactlyByTheFourStores :
    (∃ t, exec (.clkcWrPll0ctl 1) base = .next t) ∧ storesClock (.clkcWrPll0ctl 1) = true ∧
    (∃ t, exec (.clkcWrPll0feed 1) base = .next t) ∧ storesClock (.clkcWrPll0feed 1) = false := ⟨⟨_, rfl⟩, rfl, ⟨_, rfl⟩, rfl⟩
theorem witness_ClockSourceDiagnosticNamesTheSource :
    (∃ t, exec (.clkcWrClksrc 0) base = .next t) ∧ (∃ t, exec (.clkcWrClksrc 1) base = .next t) ∧
    (∃ t, exec (.clkcWrClksrc 2) base = .next t) ∧ ∃ t, exec (.clkcWrClksrc 3) base = .next t :=
  ⟨⟨_, rfl⟩, ⟨_, rfl⟩, ⟨_, rfl⟩, ⟨_, rfl⟩⟩
theorem witness_UnsupportedClockSourceIsRecoverable :
    base.running ∧ (1 : Word).toNat % 4 ≠ 0 ∧
    ∃ s t : State, s.clkc.clockSourceSelect.toNat % 4 ≠ 0 ∧ s.out.clockScale = some FALLBACK_HZ ∧ step s = .next t ∧
      t.clkc.clockSourceSelect.toNat % 4 ≠ 0 :=
  ⟨rfl, by decide, { withC (fun c => { c with clockSourceSelect := 3 }) with
      out := { base.out with clockScale := some FALLBACK_HZ }, pending := [.transaction 0x5084 0x0B] }, _,
    show (3 : Word).toNat % 4 ≠ 0 by decide, rfl, rfl, show (3 : Word).toNat % 4 ≠ 0 by decide⟩
theorem witness_EveryOperationCompletesWithOneOutcome :
    base.running ∧ (Instr.uartCanrx.agent = .backend → base.uart.backendAttached = true) ∧
    detached.running ∧ (Instr.uartRdScr.agent = .backend → detached.uart.backendAttached = true) :=
  ⟨rfl, fun _ => rfl, rfl, nofun⟩
theorem witness_EveryStepKeepsTheInvariant : base.Inv ∧ ∃ t, step base = .next t := ⟨base_inv, ⟨_, rfl⟩⟩
theorem witness_OnlyUnsupportedUartAccessesStopTheBlock :
    (∃ t, exec .uartRdLcr base = .next t ∧ t.halted = some ⟨.uart, .read, 0x00C⟩) ∧ ∃ t, exec .clkcRdUsbclk base = .next t :=
  ⟨⟨_, rfl, rfl⟩, ⟨_, rfl⟩⟩
theorem witness_TheTwoSlavesDifferOnUnsupportedOffsets :
    base.running ∧ (0x00C : Offset) ∉ ([0x000, 0x004, 0x008, 0x014] : List Offset) ∧
    (0x014 : Offset) ∉ ([0x000, 0x004, 0x008, 0x00C] : List Offset) ∧
    (0x001 : Offset) ∉ ([0x000, 0x004, 0x008, 0x00C] : List Offset) ∧
    (0x08C : Offset) ∉ ([0x080, 0x084, 0x088, 0x104, 0x10C] : List Offset) ∧
    (0x088 : Offset) ∉ ([0x080, 0x084, 0x104, 0x10C] : List Offset) :=
  ⟨rfl, by decide, by decide, by decide, by decide, by decide⟩
theorem witness_SideEffectsOfReadsAndRepeatedWrites :
    (∃ t, exec .uartRdLsr base = .next t) ∧ isPureRead .uartRdLsr = true ∧
    (∃ t, exec .uartRdScr base = .next t) ∧ unsupportedOperation .uartRdScr = true ∧
    (∃ t, exec (.uartWrLcr 0x80) base = .next t) ∧ isIdempotentWrite (.uartWrLcr 0x80) = true ∧
    (∃ t, exec (.clkcWrPll0cfg 1) base = .next t) ∧ storesClock (.clkcWrPll0cfg 1) = true ∧
    (∃ t, exec (.uartWrData 0x41) base = .next t) ∧ base.uart.backendAttached = true :=
  ⟨⟨_, rfl⟩, rfl, ⟨_, rfl⟩, rfl, ⟨_, rfl⟩, rfl, ⟨_, rfl⟩, rfl, ⟨_, rfl⟩, rfl⟩
theorem witness_RegistersChangeOnlyThroughTheirWriters :
    ∃ t, exec (.uartWrDivlo 7) base = .next t ∧ t.uart.divisorLow ≠ base.uart.divisorLow :=
  ⟨_, rfl, show (7 : Latch) ≠ 1 by decide⟩
theorem witness_ParametersAreFixedAtConstruction : ∃ t, step { base with pending := [.transaction 0x8002 0] } = .next t := ⟨_, rfl⟩
theorem witness_TheUnitsAreIndependent : isClkcOperation (.uartWrData 5) = false ∧ isClkcOperation (.clkcWrPll0cfg 5) = true := by
  decide
theorem witness_OutputsAreOnlyAddedTo : ∃ t, step { base with pending := [.transaction 0x1000 0x41] } = .next t := ⟨_, rfl⟩

end Sys2Proof.Tests
end

section
/-!
SUPPORT. What every operation leaves unchanged and how it answers (R12, R33, R34).
-/

namespace Sys2Proof.Machine

/-- No operation touches the queue of requests or a parameter (R33, R34; log 1, log 4). Only the operations that recompute are more
than an update of named fields. -/
theorem effectOf_pending_and_parameters (i : Instr) (s : State) :
    (effectOf i s).pending = s.pending ∧ (effectOf i s).clkc.mainOscillatorHz = s.clkc.mainOscillatorHz ∧
    (effectOf i s).uart.backendAttached = s.uart.backendAttached := by
  cases i with
  | uartWrData v => simp [effectOf, irqRecompute_eq, transmit_eq]
  | uartRx b => simp [effectOf, irqRecompute_eq]
  | clkcWrPll0ctl v | clkcWrPll0cfg v | clkcWrCpuclkdiv v | clkcWrClksrc v => simp [effectOf, clkcStore_eq]
  | _ => exact ⟨rfl, rfl, rfl⟩

/-- Settles O54: a step is idle or the effect of one operation, and no effect changes a parameter. -/
theorem parametersAreFixedAtConstruction : Obligations.ParametersAreFixedAtConstruction := by
  intro s t h
  obtain ⟨-, ⟨-, rfl⟩ | ⟨req, rest, sel, v, i, u, -, -, -, hu, rfl⟩⟩ := stepWith_eq_next_iff.mp h
  · exact ⟨rfl, rfl⟩
  · obtain ⟨-, -, rfl⟩ := exec_eq_next_iff.mp hu
    exact (effectOf_pending_and_parameters i { s with pending := rest }).2

/-- The operations that answer a value: every read that is not fatal (R12). -/
def answersValue (i : Instr) : Prop := isPureRead i = true ∨ i = .uartRdData ∨ i = .uartRdIir

theorem effectOf_response_of_unsupported {i : Instr} (h : unsupportedOperation i = true) (s : State) :
    ∃ e, (effectOf i s).response = .fatal e := by
  unfold unsupportedOperation at h
  split at h
  case h_11 => cases h
  all_goals exact ⟨_, rfl⟩

theorem effectOf_response_of_answersValue {i : Instr} (h : answersValue i) (s : State) :
    ∃ w, (effectOf i s).response = .value w := by
  obtain hp | rfl | rfl := h
  · unfold isPureRead at hp
    split at hp
    case h_20 => cases hp
    all_goals exact ⟨_, rfl⟩
  · exact ⟨_, rfl⟩
  · exact ⟨_, rfl⟩

/-- An operation that is neither fatal nor a read nor the query answers `done`. -/
theorem effectOf_response_of_other {i : Instr} (hfatal : unsupportedOperation i = false) (hvalue : ¬ answersValue i)
    (hquery : i ≠ .uartCanrx) (s : State) : (effectOf i s).response = .done := by
  unfold answersValue at hvalue
  cases i <;> simp_all [unsupportedOperation, isPureRead, effectOf, clkcStore, clkcIgnores]

theorem not_answersValue_of_unsupported {i : Instr} (h : unsupportedOperation i = true) : ¬ answersValue i := by
  unfold unsupportedOperation at h
  split at h
  case h_11 => cases h
  all_goals simp [answersValue, isPureRead]

/-- Settles O57: the query, the fatal accesses, the reads and the rest are disjoint, and each class has its own answer. -/
theorem everyOperationCompletesWithOneOutcome : Obligations.EveryOperationCompletesWithOneOutcome := by
  intro s i hrun hattached
  refine ⟨effectOf i s, exec_eq_next_iff.mpr ⟨hrun, hattached, rfl⟩, (effectOf_pending_and_parameters i s).1, ?_⟩
  change _ ∧ _ ∧ (_ ↔ answersValue i) ∧ _
  by_cases hquery : i = .uartCanrx
  · subst hquery
    simp [effectOf, unsupportedOperation, answersValue, isPureRead]
  · cases hfatal : unsupportedOperation i with
    | true =>
      obtain ⟨e, he⟩ := effectOf_response_of_unsupported hfatal s
      simp [he, hquery, not_answersValue_of_unsupported hfatal]
    | false =>
      by_cases hvalue : answersValue i
      · obtain ⟨w, hw⟩ := effectOf_response_of_answersValue hvalue s
        simp [hw, hquery, hvalue]
      · simp [effectOf_response_of_other hfatal hvalue hquery s, hquery, hvalue]

end Sys2Proof.Machine
end

section
/-!
SUPPORT. A bus transaction presented to the block is the access of the contract (R73, R92, R93), and a host access inside a window is a bus
transaction (R51, R55, R91).
-/

namespace Sys2Proof

/-! ### The rows for any other offset (R74, R75): no earlier row covers the word -/

theorem decode_uartRdOther {off : Offset} (h : off ∉ uartNamedOffsets) (latch : Bool) (v : Word) :
    decode (selectorOf 0 latch false off) v = .ok (.uartRdOther off) := by
  simp_all [uartNamedOffsets, decode_selectorOf, operationRows, uartReadRows_fields, covers_full, covers_anyLatch,
    covers_uartOther]

theorem decode_uartWrOther {off : Offset} (h : off ∉ uartNamedOffsets) (latch : Bool) (v : Word) :
    decode (selectorOf 0 latch true off) v = .ok (.uartWrOther off v) := by
  simp_all [uartNamedOffsets, decode_selectorOf, operationRows, uartReadRows_fields, uartWriteRows_fields, covers_full,
    covers_anyLatch, covers_uartOther]

theorem decode_clkcRdOther {off : Offset} (h : off ∉ clkcNamedOffsets) (v : Word) :
    decode (selectorOf 1 false false off) v = .ok (.clkcRdOther off) := by
  simp_all [clkcNamedOffsets, decode_selectorOf, operationRows, uartReadRows_fields, uartWriteRows_fields, portRows_fields,
    clkcReadRows_fields, covers_full, covers_anyLatch, covers_uartOther, covers_clkcOther]

theorem decode_clkcWrOther {off : Offset} (h : off ∉ clkcNamedOffsets) (v : Word) :
    decode (selectorOf 1 false true off) v = .ok (.clkcWrOther off v) := by
  simp_all [clkcNamedOffsets, decode_selectorOf, operationRows, uartReadRows_fields, uartWriteRows_fields, portRows_fields,
    clkcReadRows_fields, clkcWriteRows_fields, covers_full, covers_anyLatch, covers_uartOther, covers_clkcOther]

end Sys2Proof

namespace Sys2Proof.Machine

/-! ### The four entry points

The table of R73 and the equality chains of R92 and R93 name the same operation: a named offset is computed, any other one falls through
both. -/

theorem exec_decode_uartRead (s : State) (off : Offset) (v : Word) :
    ∃ i, decode (selectorOf 0 s.uart.latchOn false off) v = .ok i ∧ exec i s = uartBusRead off s := by
  by_cases h : off ∈ uartNamedOffsets
  · unfold uartNamedOffsets at h
    cases hl : s.uart.latchOn <;> fin_cases h <;> exact ⟨_, rfl, by rw [uartBusRead, hl]; rfl⟩
  · refine ⟨_, decode_uartRdOther h s.uart.latchOn v, ?_⟩
    simp_all [uartNamedOffsets, uartBusRead, exec, execUartRdOther, uartUnsupported]

theorem exec_decode_uartWrite (s : State) (off : Offset) (v : Word) :
    ∃ i, decode (selectorOf 0 s.uart.latchOn true off) v = .ok i ∧ exec i s = uartBusWrite off v s := by
  by_cases h : off ∈ uartNamedOffsets
  · unfold uartNamedOffsets at h
    cases hl : s.uart.latchOn <;> fin_cases h <;> exact ⟨_, rfl, by rw [uartBusWrite, hl]; rfl⟩
  · refine ⟨_, decode_uartWrOther h s.uart.latchOn v, ?_⟩
    simp_all [uartNamedOffsets, uartBusWrite, exec, execUartWrOther, uartUnsupported]

theorem exec_decode_clkcRead (s : State) (off : Offset) (v : Word) :
    ∃ i, decode (selectorOf 1 false false off) v = .ok i ∧ exec i s = clkcBusRead off s := by
  by_cases h : off ∈ clkcNamedOffsets
  · unfold clkcNamedOffsets at h
    fin_cases h <;> exact ⟨_, rfl, rfl⟩
  · refine ⟨_, decode_clkcRdOther h v, ?_⟩
    simp_all [clkcNamedOffsets, clkcBusRead, exec, execClkcRdOther, clkcReadsZero, operate]

theorem exec_decode_clkcWrite (s : State) (off : Offset) (v : Word) :
    ∃ i, decode (selectorOf 1 false true off) v = .ok i ∧ exec i s = clkcBusWrite off v s := by
  by_cases h : off ∈ clkcNamedOffsets
  · unfold clkcNamedOffsets at h
    fin_cases h <;> exact ⟨_, rfl, rfl⟩
  · refine ⟨_, decode_clkcWrOther h v, ?_⟩
    simp_all [clkcNamedOffsets, clkcBusWrite, exec, execClkcWrOther, clkcIgnores, operate]

/-! ### The step on a bus transaction -/

theorem fillLatch_uart (u : Uart) (l w : Bool) (off : Offset) :
    fillLatch u (selectorOf 0 l w off) = selectorOf 0 u.latchOn w off := by
  simp [fillLatch, setLatchField]

theorem fillLatch_of_unitField_ne_zero (u : Uart) {sel : Selector} (h : unitField sel ≠ 0) : fillLatch u sel = sel :=
  if_neg h

/-- The word of a bus transaction, as the decoder sees it, spells the access of the contract (R76, R90). -/
theorem exec_decode_busSelector (s : State) (unit : BusUnit) (dir : Dir) (off : Offset) (v : Word) :
    ∃ i, decode (fillLatch s.uart (busSelector unit dir off)) v = .ok i ∧ exec i s = busAccess unit dir off v s := by
  cases unit with
  | uart =>
    cases dir with
    | read =>
      simp only [busSelector, fillLatch_uart]
      exact exec_decode_uartRead s off v
    | write =>
      simp only [busSelector, fillLatch_uart]
      exact exec_decode_uartWrite s off v
  | clkc =>
    rw [fillLatch_of_unitField_ne_zero _ (by simp [busSelector])]
    cases dir with
    | read => exact exec_decode_clkcRead s off v
    | write => exact exec_decode_clkcWrite s off v

/-- The step on the oldest request of a running block is the operation its word decodes to, on the state without the request, the
answer looked at in the request's size (R58; log 1). -/
theorem stepWith_of_decode {m : Config.MemoryMap} {s : State} {req : Request} {rest : List Request} {sel : Selector}
    {v : Word} {i : Instr} (hrun : s.running) (hpend : s.pending = req :: rest) (hreq : requestWord m req = .ok (sel, v))
    (hdec : decode (fillLatch s.uart sel) v = .ok i) :
    stepWith m s = deliver (answerSize req) (exec i { s with pending := rest }) := by
  have hhalt : s.halted = none := hrun
  simp [stepWith, nextOperation, performWord, hhalt, hpend, hreq, hdec]

/-- The step on a request that presents a bus transaction is the access of the contract (R90). -/
theorem stepWith_of_busSelector {m : Config.MemoryMap} {s : State} {req : Request} {rest : List Request} {unit : BusUnit}
    {dir : Dir} {off : Offset} {v : Word} (hrun : s.running) (hpend : s.pending = req :: rest)
    (hreq : requestWord m req = .ok (busSelector unit dir off, v)) :
    stepWith m s = deliver (answerSize req) (busAccess unit dir off v { s with pending := rest }) := by
  obtain ⟨i, hdec, hexec⟩ := exec_decode_busSelector { s with pending := rest } unit dir off v
  rw [stepWith_of_decode hrun hpend hreq hdec, hexec]

/-! ### Host accesses -/

theorem hostTransaction_of_route {m : Config.MemoryMap} {addr : Word} {size : AccessSize} {unit : BusUnit} {off : Offset}
    (hm : m.wf = true) (hsize : size ≠ .wider) (hroute : route m addr = some (unit, off)) (dir : Dir) (v : Word) :
    hostTransaction m dir addr size v = .ok (busSelector unit dir off, keepLow size v) := by
  simp [hostTransaction, hsize, hm, hroute]

theorem route_uart {m : Config.MemoryMap} {addr : Word} (h : m.uartBase.toNat ≤ addr.toNat)
    (h' : addr.toNat < m.uartBase.toNat + m.uartWindow) :
    route m addr = some (.uart, BitVec.ofNat 12 (addr.toNat - m.uartBase.toNat)) :=
  if_pos ⟨h, h'⟩

/-- The windows of a well-formed map do not overlap (R51). -/
theorem windows_disjoint_of_wf {m : Config.MemoryMap} (hm : m.wf = true) :
    m.uartBase.toNat + m.uartWindow ≤ m.clkcBase.toNat ∨ m.clkcBase.toNat + m.clkcWindow ≤ m.uartBase.toNat := by
  simp only [Config.MemoryMap.wf, Bool.and_eq_true, decide_eq_true_eq] at hm
  exact hm.2

theorem route_clkc {m : Config.MemoryMap} {addr : Word} (hm : m.wf = true) (h : m.clkcBase.toNat ≤ addr.toNat)
    (h' : addr.toNat < m.clkcBase.toNat + m.clkcWindow) :
    route m addr = some (.clkc, BitVec.ofNat 12 (addr.toNat - m.clkcBase.toNat)) := by
  have hout : ¬ (m.uartBase.toNat ≤ addr.toNat ∧ addr.toNat < m.uartBase.toNat + m.uartWindow) := by
    have := windows_disjoint_of_wf hm
    omega
  simp [route, hout, h, h']

theorem keepLow_zero (size : AccessSize) : keepLow size 0 = 0 := by
  cases size <;> rfl

/-- A host load and a host store at an address of a window are the two accesses of its owner. -/
theorem stepWith_hostAccess_of_route {m : Config.MemoryMap} {s : State} {addr : Word} {size : AccessSize} {unit : BusUnit}
    {off : Offset} (hm : m.wf = true) (hrun : s.running) (hsize : size ≠ .wider)
    (hroute : route m addr = some (unit, off)) (v : Word) (rest : List Request) :
    stepWith m { s with pending := .load addr size :: rest } =
        deliver size (busAccess unit .read off 0 { s with pending := rest }) ∧
      stepWith m { s with pending := .store addr size v :: rest } =
        busAccess unit .write off (keepLow size v) { s with pending := rest } := by
  have hload : requestWord m (.load addr size) = .ok (busSelector unit .read off, 0) := by
    rw [requestWord, hostTransaction_of_route hm hsize hroute, keepLow_zero]
  have hstore : requestWord m (.store addr size v) = .ok (busSelector unit .write off, keepLow size v) :=
    hostTransaction_of_route hm hsize hroute .write v
  constructor
  · exact stepWith_of_busSelector (s := { s with pending := .load addr size :: rest }) hrun rfl hload
  · exact (stepWith_of_busSelector (s := { s with pending := .store addr size v :: rest }) hrun rfl hstore).trans
      (deliver_word _)

/-- Settles O12: a well-formed map routes an address of a window to its owner, and the step on a routed access is the contract's. -/
theorem hostAccessInAWindowIsOneBusAccess : Obligations.HostAccessInAWindowIsOneBusAccess := by
  intro m s addr size v rest hm hrun hsize
  constructor
  · intro hlow hhigh
    exact stepWith_hostAccess_of_route hm hrun hsize (route_uart hlow hhigh) v rest
  · intro hlow hhigh
    exact stepWith_hostAccess_of_route hm hrun hsize (route_clkc hm hlow hhigh) v rest

end Sys2Proof.Machine
end

section
/-!
SUPPORT. The state rules of 10_state.md. What an operation does to the registers of a unit is said once, as a relation between the
registers before and after (`UartChange`, `ClockStore`), and what it does to the outputs once, as what it adds (`OutputsAdded`). The
rules on registers, flags, outputs and the invariant (R23 to R43) are read off these.
-/

namespace Sys2Proof

/-! ### A decoded operation is well formed (R73): a named offset is taken by an earlier row -/

theorem wf_of_decode_uart {latch write : Bool} {off : Offset} {v : Word} {i : Instr}
    (h : decode (selectorOf 0 latch write off) v = .ok i) : i.wf = true := by
  by_cases hoff : off ∈ uartNamedOffsets
  · unfold uartNamedOffsets at hoff
    cases latch <;> cases write <;> fin_cases hoff <;> cases h <;> rfl
  · cases write with
    | false =>
      cases (decode_uartRdOther hoff latch v).symm.trans h
      simpa [Instr.wf] using hoff
    | true =>
      cases (decode_uartWrOther hoff latch v).symm.trans h
      simpa [Instr.wf] using hoff

theorem wf_of_decode_clkc {latch write : Bool} {off : Offset} {v : Word} {i : Instr}
    (h : decode (selectorOf 1 latch write off) v = .ok i) : i.wf = true := by
  cases latch with
  | true =>
    simp [decode_selectorOf, operationRows, uartReadRows_fields, uartWriteRows_fields, portRows_fields, clkcReadRows_fields,
      clkcWriteRows_fields, covers_full, covers_anyLatch, covers_uartOther, covers_clkcOther] at h
  | false =>
    by_cases hoff : off ∈ clkcNamedOffsets
    · unfold clkcNamedOffsets at hoff
      cases write <;> fin_cases hoff <;> cases h <;> rfl
    · cases write with
      | false =>
        cases (decode_clkcRdOther hoff v).symm.trans h
        simpa [Instr.wf] using hoff
      | true =>
        cases (decode_clkcWrOther hoff v).symm.trans h
        simpa [Instr.wf] using hoff

theorem wf_of_decode_port {latch write : Bool} {off : Offset} {v : Word} {i : Instr}
    (h : decode (selectorOf 2 latch write off) v = .ok i) : i.wf = true := by
  by_cases hport : off ∈ ([0, 1, 2, 3] : List Offset)
  · cases latch <;> cases write <;> fin_cases hport <;> cases h <;> rfl
  · simp_all [decode_selectorOf, operationRows, uartReadRows_fields, uartWriteRows_fields, portRows_fields, clkcReadRows_fields,
      clkcWriteRows_fields, covers_full, covers_anyLatch, covers_uartOther, covers_clkcOther]

theorem decode_unit_three (latch write : Bool) (off : Offset) (v : Word) (i : Instr) :
    decode (selectorOf 3 latch write off) v ≠ .ok i := by
  simp [decode_selectorOf, operationRows, uartReadRows_fields, uartWriteRows_fields, portRows_fields, clkcReadRows_fields,
    clkcWriteRows_fields, covers_full, covers_anyLatch, covers_uartOther, covers_clkcOther]

theorem wf_of_decode {sel : Selector} {v : Word} {i : Instr} (h : decode sel v = .ok i) : i.wf = true := by
  rw [← selectorOf_fields sel] at h
  have hunit : ∀ u : BitVec 2, u = 0 ∨ u = 1 ∨ u = 2 ∨ u = 3 := by decide
  obtain hu | hu | hu | hu := hunit (unitField sel) <;> rw [hu] at h
  · exact wf_of_decode_uart h
  · exact wf_of_decode_clkc h
  · exact wf_of_decode_port h
  · exact absurd h (decode_unit_three _ _ _ _ _)

end Sys2Proof

namespace Sys2Proof.Machine

/-! ### When there is a step (R22, R41) -/

theorem exec_of_halted {s : State} {e : FatalError} (h : s.halted = some e) (i : Instr) :
    exec i s = .fault (.fatal e) := by
  by_cases hi : i.agent = .backend
  · rw [exec_eq_backendCall s hi, backendCall_of_halted h]
  · rw [exec_eq_operate s hi, operate_of_halted h]

theorem stepWith_of_halted {m : Config.MemoryMap} {s : State} {e : FatalError} (h : s.halted = some e) :
    stepWith m s = .fault (.fatal e) := by
  simp [stepWith, nextOperation, h]

/-- Settles O9: `halted` is looked at before the queue and before the operation. -/
theorem haltedBlockHasNoStep : Obligations.HaltedBlockHasNoStep :=
  fun _ _ h => ⟨stepWith_of_halted h, exec_of_halted h⟩

/-- Settles O8: the idle case of the step. -/
theorem stepWithNothingPresentedChangesNothing : Obligations.StepWithNothingPresentedChangesNothing :=
  fun _ hrun hpend => stepWith_eq_next_iff.mpr ⟨hrun, .inl ⟨hpend, rfl⟩⟩

/-- A step is idle, or the effect of a well-formed operation up to the queue and the answer, which no rule of the state looks at. -/
theorem step_eq_next_cases {s t : State} (h : step s = .next t) :
    t = s ∨ ∃ (i : Instr) (rest : List Request) (r : Response), i.wf = true ∧ s.halted = none ∧
      t = { effectOf i { s with pending := rest } with response := r } := by
  obtain ⟨hhalt, ⟨-, rfl⟩ | ⟨req, rest, sel, v, i, u, -, -, hdec, hu, rfl⟩⟩ := stepWith_eq_next_iff.mp h
  · exact .inl rfl
  · obtain ⟨-, -, rfl⟩ := exec_eq_next_iff.mp hu
    exact .inr ⟨i, rest, _, wf_of_decode hdec, hhalt, rfl⟩

/-! ### The registers after an operation -/

/-- `UartChange u i u'`: the operation `i` may turn the UART `u` into `u'` (R23 to R30). Only the named operations change it, each in
one way. -/
inductive UartChange (u : Uart) : Instr → Uart → Prop
  | unchanged (i : Instr) : UartChange u i u
  | readData : UartChange u .uartRdData
      { u with
        lineStatus := clearBits u.lineStatus LSR_RDR
        interruptIdentification := clearBits u.interruptIdentification IIR_RX_PENDING }
  | readIdentification : UartChange u .uartRdIir { u with interruptIdentification := IIR_IDLE }
  | writeData (v : Word) : UartChange u (.uartWrData v)
      { u with interruptIdentification := afterDataWrite u.interruptIdentification }
  | writeDivisorLow (v : Word) : UartChange u (.uartWrDivlo v) { u with divisorLow := lowLatch v }
  | writeInterruptEnable (v : Word) : UartChange u (.uartWrIer v) { u with interruptEnable := v }
  | writeDivisorHigh (v : Word) : UartChange u (.uartWrDivhi v) { u with divisorHigh := lowLatch v }
  | writeFifoControl (v : Word) : UartChange u (.uartWrFcr v) { u with fifoControl := v }
  | writeLineControl (v : Word) : UartChange u (.uartWrLcr v) { u with lineControl := v }
  | ingress (b : Byte) : UartChange u (.uartRx b)
      { u with
        receiveBuffer := b
        lineStatus := setBits u.lineStatus LSR_RDR
        interruptIdentification := setBits u.interruptIdentification IIR_RX_PENDING }
  | reset : UartChange u .uartReset u.restoreDefaults

/-- `ClockStore c i c'`: the operation `i` stores to a clock register, and turns `c` into `c'` (R35 to R38). -/
inductive ClockStore (c : Clkc) : Instr → Clkc → Prop
  | pll0Control (v : Word) : ClockStore c (.clkcWrPll0ctl v) { c with pll0Control := v }
  | pll0Config (v : Word) : ClockStore c (.clkcWrPll0cfg v) { c with pll0Config := v }
  | cpuClockDivideConfig (v : Word) : ClockStore c (.clkcWrCpuclkdiv v) { c with cpuClockDivideConfig := v }
  | clockSourceSelect (v : Word) : ClockStore c (.clkcWrClksrc v) { c with clockSourceSelect := v }

theorem uartChange_effectOf (i : Instr) (s : State) : UartChange s.uart i (effectOf i s).uart := by
  cases i with
  | uartRdData => exact .readData
  | uartRdIir => exact .readIdentification
  | uartWrData v =>
    simp only [effectOf, transmit_eq, irqRecompute_eq]
    exact .writeData v
  | uartWrDivlo v => exact .writeDivisorLow v
  | uartWrIer v => exact .writeInterruptEnable v
  | uartWrDivhi v => exact .writeDivisorHigh v
  | uartWrFcr v => exact .writeFifoControl v
  | uartWrLcr v => exact .writeLineControl v
  | uartRx b =>
    simp only [effectOf, irqRecompute_eq]
    exact .ingress b
  | uartReset => exact .reset
  | clkcWrPll0ctl v | clkcWrPll0cfg v | clkcWrCpuclkdiv v | clkcWrClksrc v =>
    simp only [effectOf, clkcStore_eq]
    exact .unchanged _
  | _ => exact .unchanged _

/-- The clock side of an operation: it is one of the four stores, and then `clkcStore` of the new registers, or it leaves the clock
registers and the clock outputs alone (R149, R151). -/
theorem effectOf_clock_cases (i : Instr) (s : State) :
    (∃ c, ClockStore s.clkc i c ∧ effectOf i s = clkcStore c s) ∨
    (storesClock i = false ∧ (effectOf i s).clkc = s.clkc ∧ (effectOf i s).out.clockScale = s.out.clockScale ∧
      (effectOf i s).out.published = s.out.published) := by
  cases i with
  | clkcWrPll0ctl v => exact .inl ⟨_, .pll0Control v, rfl⟩
  | clkcWrPll0cfg v => exact .inl ⟨_, .pll0Config v, rfl⟩
  | clkcWrCpuclkdiv v => exact .inl ⟨_, .cpuClockDivideConfig v, rfl⟩
  | clkcWrClksrc v => exact .inl ⟨_, .clockSourceSelect v, rfl⟩
  | uartWrData v => simp [storesClock, effectOf, transmit_eq, irqRecompute_eq]
  | uartRx b => simp [storesClock, effectOf, irqRecompute_eq]
  | _ => exact .inr ⟨rfl, rfl, rfl, rfl⟩

theorem ClockStore.storesClock {c c' : Clkc} {i : Instr} (h : ClockStore c i c') : storesClock i = true := by
  cases h <;> rfl

theorem UartChange.only_by_writer {u u' : Uart} {i : Instr} (h : UartChange u i u') :
    (u'.divisorLow ≠ u.divisorLow → (∃ v, i = .uartWrDivlo v) ∨ i = .uartReset) ∧
    (u'.divisorHigh ≠ u.divisorHigh → (∃ v, i = .uartWrDivhi v) ∨ i = .uartReset) ∧
    (u'.interruptEnable ≠ u.interruptEnable → (∃ v, i = .uartWrIer v) ∨ i = .uartReset) ∧
    (u'.interruptIdentification ≠ u.interruptIdentification →
      i = .uartRdIir ∨ i = .uartRdData ∨ (∃ v, i = .uartWrData v) ∨ (∃ b, i = .uartRx b) ∨ i = .uartReset) ∧
    (u'.fifoControl ≠ u.fifoControl → ∃ v, i = .uartWrFcr v) ∧
    (u'.lineControl ≠ u.lineControl → ∃ v, i = .uartWrLcr v) ∧
    (u'.lineStatus ≠ u.lineStatus → (∃ b, i = .uartRx b) ∨ i = .uartRdData ∨ i = .uartReset) ∧
    (u'.receiveBuffer ≠ u.receiveBuffer → (∃ b, i = .uartRx b) ∨ i = .uartReset) := by
  cases h <;> simp [Uart.restoreDefaults]

theorem ClockStore.only_by_writer {c c' : Clkc} {i : Instr} (h : ClockStore c i c') :
    (c'.cpuClockDivideConfig ≠ c.cpuClockDivideConfig → ∃ v, i = .clkcWrCpuclkdiv v) ∧
    (c'.clockSourceSelect ≠ c.clockSourceSelect → ∃ v, i = .clkcWrClksrc v) ∧
    (c'.pll0Config ≠ c.pll0Config → ∃ v, i = .clkcWrPll0cfg v) ∧
    (c'.pll0Control ≠ c.pll0Control → ∃ v, i = .clkcWrPll0ctl v) := by
  cases h <;> simp

/-- Settles O53: the changes of the UART name their operations, and so do the four stores of the CLKC. -/
theorem registersChangeOnlyThroughTheirWriters : Obligations.RegistersChangeOnlyThroughTheirWriters := by
  intro s t i h
  obtain ⟨-, -, rfl⟩ := exec_eq_next_iff.mp h
  obtain ⟨hdl, hdh, hier, hiir, hfcr, hlcr, hlsr, hrbr⟩ := (uartChange_effectOf i s).only_by_writer
  refine ⟨hdl, hdh, hier, hiir, hfcr, hlcr, hlsr, hrbr, ?_⟩
  obtain ⟨c, hc, heffect⟩ | ⟨-, hclkc, -, -⟩ := effectOf_clock_cases i s
  · simpa [heffect, clkcStore_eq] using hc.only_by_writer
  · simp [hclkc]

/-- Settles O45: a store is `clkcStore`, which publishes once, and any other operation leaves the clock side alone. -/
theorem clockScaleIsPublishedExactlyByTheFourStores : Obligations.ClockScaleIsPublishedExactlyByTheFourStores := by
  intro s t i h
  obtain ⟨-, -, rfl⟩ := exec_eq_next_iff.mp h
  obtain ⟨c, hc, heffect⟩ | ⟨hstore, hclkc, hscale, hpub⟩ := effectOf_clock_cases i s
  · simp [hc.storesClock, heffect, clkcStore_eq]
  · simp [hstore, hclkc, hscale, hpub]

/-! ### The status flags (R42) -/

theorem anySet_setBits (v m m' : Word) : anySet (setBits v m) m' = (anySet v m' || anySet m m') := by
  have hzero : (v ||| m) &&& m' = 0 ↔ v &&& m' = 0 ∧ m &&& m' = 0 := by
    rw [BitVec.and_comm, BitVec.and_or_distrib_left, BitVec.and_comm m', BitVec.and_comm m']
    exact BitVec.or_eq_zero_iff
  rw [Bool.eq_iff_iff, Bool.or_eq_true, anySet_iff, anySet_iff, anySet_iff, setBits, Ne, hzero, not_and_or]

/-- Clearing bits leaves alone every flag they are disjoint from. -/
theorem anySet_clearBits_of_disjoint {m m' : Word} (h : ~~~m &&& m' = m') (v : Word) :
    anySet (clearBits v m) m' = anySet v m' := by
  rw [anySet, clearBits, BitVec.and_assoc, h, anySet]

/-- A flag within the cleared bits is clear. -/
theorem anySet_clearBits_of_covered {m m' : Word} (h : ~~~m &&& m' = 0) (v : Word) :
    anySet (clearBits v m) m' = false := by
  rw [anySet_eq_false_iff, clearBits, BitVec.and_assoc, h]
  exact BitVec.and_zero

theorem afterDataWrite_eq_clearBits (iir : Word) : afterDataWrite iir = clearBits iir (IIR_NOINT ||| IIR_THRE_PENDING) :=
  afterDataWrite_eq iir

/-! The masks of R8 against one another. -/

theorem readyMask_flags : anySet LSR_RDR LSR_RDR = true ∧ anySet LSR_RDR LSR_TXE = false := by decide

theorem transmitEmptyMask_flags : anySet LSR_TXE LSR_RDR = false ∧ anySet LSR_TXE LSR_TXE = true := by decide

theorem receiveCauseMask_flags :
    anySet IIR_RX_PENDING IIR_RX_PENDING = true ∧ anySet IIR_RX_PENDING IIR_THRE_PENDING = false ∧
    anySet IIR_RX_PENDING IIR_NOINT = false := by decide

theorem idleValue_flags :
    anySet IIR_IDLE IIR_RX_PENDING = false ∧ anySet IIR_IDLE IIR_THRE_PENDING = false ∧
    anySet IIR_IDLE IIR_NOINT = true := by decide

theorem UartChange.lineStatus_cases {u u' : Uart} {i : Instr} (h : UartChange u i u') :
    u'.lineStatus = u.lineStatus ∨
    ((∃ b, i = .uartRx b) ∧ u'.lineStatus = setBits u.lineStatus LSR_RDR) ∨
    (i = .uartRdData ∧ u'.lineStatus = clearBits u.lineStatus LSR_RDR) ∨
    (i = .uartReset ∧ u'.lineStatus = LSR_TXE) := by
  cases h <;> simp [Uart.restoreDefaults]

theorem UartChange.interruptIdentification_cases {u u' : Uart} {i : Instr} (h : UartChange u i u') :
    u'.interruptIdentification = u.interruptIdentification ∨
    ((∃ b, i = .uartRx b) ∧ u'.interruptIdentification = setBits u.interruptIdentification IIR_RX_PENDING) ∨
    (i = .uartRdData ∧ u'.interruptIdentification = clearBits u.interruptIdentification IIR_RX_PENDING) ∨
    ((∃ v, i = .uartWrData v) ∧ u'.interruptIdentification = afterDataWrite u.interruptIdentification) ∨
    ((i = .uartRdIir ∨ i = .uartReset) ∧ u'.interruptIdentification = IIR_IDLE) := by
  cases h <;> simp [Uart.restoreDefaults]

/-- The flags of line-status (R42): ready and transmit-empty. -/
theorem UartChange.lineStatus_flags {u u' : Uart} {i : Instr} (h : UartChange u i u') :
    (anySet u.lineStatus LSR_RDR = false → anySet u'.lineStatus LSR_RDR = true → ∃ b, i = .uartRx b) ∧
    (anySet u.lineStatus LSR_RDR = true → anySet u'.lineStatus LSR_RDR = false → i = .uartRdData ∨ i = .uartReset) ∧
    (anySet u.lineStatus LSR_TXE = true → anySet u'.lineStatus LSR_TXE = true) ∧
    (anySet u.lineStatus LSR_TXE = false → anySet u'.lineStatus LSR_TXE = true → i = .uartReset) := by
  obtain hu | ⟨⟨b, rfl⟩, hu⟩ | ⟨rfl, hu⟩ | ⟨rfl, hu⟩ := h.lineStatus_cases
  · simp_all
  · simp [hu, anySet_setBits, readyMask_flags]
  · simp (disch := decide) [hu, anySet_clearBits_of_disjoint, anySet_clearBits_of_covered]
  · simp [hu, transmitEmptyMask_flags]

/-- The flags of the identification register (R42): receive cause, transmit cause and no-interrupt bit. -/
theorem UartChange.interruptIdentification_flags {u u' : Uart} {i : Instr} (h : UartChange u i u') :
    (anySet u.interruptIdentification IIR_RX_PENDING = false →
      anySet u'.interruptIdentification IIR_RX_PENDING = true → ∃ b, i = .uartRx b) ∧
    (anySet u.interruptIdentification IIR_RX_PENDING = true →
      anySet u'.interruptIdentification IIR_RX_PENDING = false → i = .uartRdData ∨ i = .uartRdIir ∨ i = .uartReset) ∧
    (anySet u.interruptIdentification IIR_THRE_PENDING = false →
      anySet u'.interruptIdentification IIR_THRE_PENDING = false) ∧
    (anySet u.interruptIdentification IIR_NOINT = false →
      anySet u'.interruptIdentification IIR_NOINT = true → i = .uartRdIir ∨ i = .uartReset) ∧
    (anySet u.interruptIdentification IIR_NOINT = true →
      anySet u'.interruptIdentification IIR_NOINT = false → ∃ v, i = .uartWrData v) := by
  obtain hu | ⟨⟨b, rfl⟩, hu⟩ | ⟨rfl, hu⟩ | ⟨⟨v, rfl⟩, hu⟩ | ⟨rfl | rfl, hu⟩ := h.interruptIdentification_cases
  · simp_all
  · simp [hu, anySet_setBits, receiveCauseMask_flags]
  · simp (disch := decide) [hu, anySet_clearBits_of_disjoint, anySet_clearBits_of_covered]
  · simp (disch := decide) [hu, afterDataWrite_eq_clearBits, anySet_clearBits_of_disjoint, anySet_clearBits_of_covered]
  · simp [hu, idleValue_flags]
  · simp [hu, idleValue_flags]

/-- Settles O33: the flags of the two status registers, each register's by its own table. -/
theorem statusFlagsChangeOnlyByTheirOperations : Obligations.StatusFlagsChangeOnlyByTheirOperations := by
  intro s t i h
  obtain ⟨-, -, rfl⟩ := exec_eq_next_iff.mp h
  have hchange := uartChange_effectOf i s
  obtain ⟨hset, hcleared, htxe, htxeSet⟩ := hchange.lineStatus_flags
  exact ⟨hset, hcleared, htxe, htxeSet, hchange.interruptIdentification_flags⟩

/-! ### The outputs (R32, R39, R40) -/

/-- At most one entry was added to a record of outputs. -/
def AddsAtMostOne {α : Type} (before after : List α) : Prop := after = before ∨ ∃ a, after = before ++ [a]

theorem AddsAtMostOne.isPrefix {α : Type} {before after : List α} (h : AddsAtMostOne before after) : before <+: after := by
  obtain rfl | ⟨a, rfl⟩ := h
  · exact List.prefix_rfl
  · exact List.prefix_append before [a]

theorem AddsAtMostOne.length_le {α : Type} {before after : List α} (h : AddsAtMostOne before after) :
    after.length ≤ before.length + 1 := by
  obtain rfl | ⟨a, rfl⟩ := h <;> simp

/-- What an operation may do to the outputs. -/
structure OutputsAdded (before after : Outputs) : Prop where
  tx : AddsAtMostOne before.tx after.tx
  irq : after.irq = before.irq ∨ after.irq = before.irq + 1
  published : AddsAtMostOne before.published after.published
  diag : AddsAtMostOne before.diag after.diag

theorem OutputsAdded.refl (o : Outputs) : OutputsAdded o o := ⟨.inl rfl, .inl rfl, .inl rfl, .inl rfl⟩

theorem outputsAdded_raiseFatal (unit : BusUnit) (dir : Dir) (off : Offset) (s : State) :
    OutputsAdded s.out (raiseFatal unit dir off s).out :=
  ⟨.inl rfl, .inl rfl, .inl rfl, .inr ⟨_, rfl⟩⟩

theorem outputsAdded_clkcStore (c : Clkc) (s : State) : OutputsAdded s.out (clkcStore c s).out := by
  rw [clkcStore_eq]
  refine ⟨.inl rfl, .inl rfl, .inr ⟨_, rfl⟩, ?_⟩
  by_cases hsrc : c.source = CLKSRC_INTERNAL
  · exact .inl (if_pos hsrc)
  · exact .inr ⟨_, if_neg hsrc⟩

theorem addsAtMostOne_transmit (b : Byte) (s : State) : AddsAtMostOne s.out.tx (transmit b s).out.tx := by
  unfold transmit
  split
  · exact .inr ⟨b, rfl⟩
  · exact .inl rfl

theorem irq_irqRecompute (s : State) :
    (irqRecompute s).out.irq = s.out.irq ∨ (irqRecompute s).out.irq = s.out.irq + 1 := by
  unfold irqRecompute
  split
  · exact .inr rfl
  · exact .inl rfl

theorem outputsAdded_effectOf (i : Instr) (s : State) : OutputsAdded s.out (effectOf i s).out := by
  cases i with
  | uartWrData v =>
    constructor
    case tx => simpa [effectOf, irqRecompute_eq] using addsAtMostOne_transmit (lowByte v) s
    case irq => simpa [effectOf, transmit_eq] using irq_irqRecompute (withUart _ (transmit (lowByte v) s))
    all_goals exact .inl (by simp [effectOf, transmit_eq, irqRecompute_eq])
  | uartRx b =>
    constructor
    case irq => exact irq_irqRecompute (withUart _ s)
    all_goals exact .inl (by simp [effectOf, irqRecompute_eq])
  | clkcWrPll0ctl v | clkcWrPll0cfg v | clkcWrCpuclkdiv v | clkcWrClksrc v => exact outputsAdded_clkcStore _ s
  | uartRdLcr | uartRdMcr | uartRdMsr | uartRdScr | uartRdOther off => exact outputsAdded_raiseFatal _ _ _ s
  | uartWrMcr v | uartWrLsr v | uartWrMsr v | uartWrScr v | uartWrOther off v => exact outputsAdded_raiseFatal _ _ _ s
  | _ => exact .refl _

/-- Settles O56: a step adds nothing, or what one operation adds. -/
theorem outputsAreOnlyAddedTo : Obligations.OutputsAreOnlyAddedTo := by
  intro s t h
  have hadded : OutputsAdded s.out t.out := by
    obtain rfl | ⟨i, rest, r, -, -, rfl⟩ := step_eq_next_cases h
    · exact .refl _
    · exact outputsAdded_effectOf i { s with pending := rest }
  have hirq := hadded.irq
  exact ⟨hadded.tx.isPrefix, hadded.published.isPrefix, hadded.diag.isPrefix, by omega, by omega, hadded.tx.length_le,
    hadded.published.length_le⟩

/-! ### Noninterference (R20, R114) -/

/-- A change of the state that an operation's effect commutes with is the same before the operation as after it. -/
theorem exec_mapNext {f : State → State} {i : Instr} {s : State} (hhalted : (f s).halted = s.halted)
    (hattached : i.agent = .backend → (f s).uart.backendAttached = s.uart.backendAttached)
    (heffect : effectOf i (f s) = f (effectOf i s)) : exec i (f s) = mapNext f (exec i s) := by
  by_cases hi : i.agent = .backend
  · rw [exec_eq_backendCall _ hi, exec_eq_backendCall _ hi]
    exact backendCall_mapNext hhalted (hattached hi) fun _ _ => heffect
  · rw [exec_eq_operate _ hi, exec_eq_operate _ hi]
    exact operate_mapNext hhalted fun _ => heffect

/-- Replace FIFO-control. -/
def withFifoControl (v : Word) (s : State) : State := { s with uart := { s.uart with fifoControl := v } }

theorem effectOf_withFifoControl {i : Instr} (hi : ∀ w, i ≠ .uartWrFcr w) (v : Word) (s : State) :
    effectOf i (withFifoControl v s) = withFifoControl v (effectOf i s) := by
  cases i with
  | uartWrFcr w => exact absurd rfl (hi w)
  | uartWrData w => simp [withFifoControl, effectOf, transmit_eq, irqRecompute_eq, complete, withUart, Uart.irqCond]
  | uartRx b => simp [withFifoControl, effectOf, irqRecompute_eq, complete, withUart, Uart.irqCond]
  | clkcWrPll0ctl w | clkcWrPll0cfg w | clkcWrCpuclkdiv w | clkcWrClksrc w =>
    simp [withFifoControl, effectOf, clkcStore_eq]
  | _ => rfl

/-- Settles O24: no other operation's effect looks at FIFO-control, and the write overwrites it, so that two states which differ in it
only have the same effect, by computation. -/
theorem fifoControlIsStoredAndNeverReadBack : Obligations.FifoControlIsStoredAndNeverReadBack := by
  refine ⟨fun v => ⟨rfl, rfl⟩, fun s v => ⟨fun hrun => ?_, fun w => ?_, fun i hi => ?_⟩⟩
  · exact exec_eq_next_iff.mpr ⟨hrun, nofun, rfl⟩
  · rfl
  · exact exec_mapNext (f := withFifoControl v) rfl (fun _ => rfl) (effectOf_withFifoControl hi v s)

/-- Replace the clock registers and the clock outputs. -/
def withClockSide (c : Clkc) (scale : Option Nat) (pub : List Nat) (s : State) : State :=
  { s with clkc := c, out := { s.out with clockScale := scale, published := pub } }

theorem effectOf_withClockSide {i : Instr} (hi : isClkcOperation i = false) (c : Clkc) (scale : Option Nat) (pub : List Nat)
    (s : State) : effectOf i (withClockSide c scale pub s) = withClockSide c scale pub (effectOf i s) := by
  cases i with
  | uartWrData v => simp [withClockSide, effectOf, transmit_eq, irqRecompute_eq, complete, withUart]
  | uartRx b => simp [withClockSide, effectOf, irqRecompute_eq, complete, withUart]
  | clkcRdPll0ctl | clkcRdPll0cfg | clkcRdCpuclkdiv | clkcRdClksrc => cases hi
  | clkcWrPll0ctl v | clkcWrPll0cfg v | clkcWrCpuclkdiv v | clkcWrClksrc v => cases hi
  | _ => rfl

/-- Replace the UART registers, the transmit stream and the pulses. -/
def withUartSide (u : Uart) (sent : List Byte) (pulses : Nat) (s : State) : State :=
  { s with uart := u, out := { s.out with tx := sent, irq := pulses } }

theorem effectOf_withUartSide {i : Instr} (hi : isClkcOperation i = true) (u : Uart) (sent : List Byte) (pulses : Nat)
    (s : State) : effectOf i (withUartSide u sent pulses s) = withUartSide u sent pulses (effectOf i s) := by
  cases i with
  | clkcWrPll0ctl v | clkcWrPll0cfg v | clkcWrCpuclkdiv v | clkcWrClksrc v => simp [withUartSide, effectOf, clkcStore_eq]
  | uartRdData | uartRdIer | uartRdDivhi | uartRdIir | uartRdLsr | uartRx b | uartCanrx | uartReset => cases hi
  | uartWrData v | uartWrDivlo v | uartWrIer v | uartWrDivhi v | uartWrFcr v | uartWrLcr v => cases hi
  | _ => rfl

theorem agent_ne_backend_of_isClkcOperation {i : Instr} (hi : isClkcOperation i = true) : i.agent ≠ .backend := by
  intro hb
  cases i <;> cases hb <;> cases hi

/-- Settles O55: each unit's operations commute with any change of the other unit's side. -/
theorem theUnitsAreIndependent : Obligations.TheUnitsAreIndependent := by
  refine fun s i => ⟨fun hi c scale pub => ?_, fun hi u sent pulses => ?_⟩
  · exact exec_mapNext (f := withClockSide c scale pub) rfl (fun _ => rfl) (effectOf_withClockSide hi c scale pub s)
  · exact exec_mapNext (f := withUartSide u sent pulses) rfl (fun hb => absurd hb (agent_ne_backend_of_isClkcOperation hi))
      (effectOf_withUartSide hi u sent pulses s)

/-! ### The invariant of reachable states (R43, R160) -/

/-- Settles O35: construction, field by field. -/
theorem constructionLeavesTheStatedValues : Obligations.ConstructionLeavesTheStatedValues := by
  simp [Obligations.ConstructionLeavesTheStatedValues, State.reset, State.construct, Uart.construct, Clkc.construct,
    DIVISOR_LOW_DEFAULT, DIVISOR_HIGH_DEFAULT, FIFO_CONTROL_CONSTRUCTED, LINE_CONTROL_CONSTRUCTED]

theorem legal_construct (attached : Bool) : (Uart.construct attached).Legal :=
  ⟨show LSR_TXE ∈ lsrLegalValues by simp [lsrLegalValues], show IIR_IDLE ∈ iirLegalValues by simp [iirLegalValues],
    idleValue_flags.2.1⟩

/-- Settles O48: the constructed registers are among the legal values, no cause is pending and nothing was published. -/
theorem constructionMeetsTheInvariant : Obligations.ConstructionMeetsTheInvariant where
  uart := legal_construct _
  pendingHasByte := fun hcause => absurd hcause (by simp [State.reset, State.construct, Uart.construct, idleValue_flags])
  clock := ⟨.inl ⟨rfl, rfl⟩, rfl⟩
  halted := nofun

/-- The legal values of line-status are closed under ingress and a data read (R43 item 1). -/
theorem lsrLegalValues_closed {v : Word} (hv : v ∈ lsrLegalValues) :
    setBits v LSR_RDR ∈ lsrLegalValues ∧ clearBits v LSR_RDR ∈ lsrLegalValues := by
  unfold lsrLegalValues at hv
  fin_cases hv <;> decide

/-- The legal values of the identification register are closed under ingress, a data read and a data write (R43 item 2). -/
theorem iirLegalValues_closed {v : Word} (hv : v ∈ iirLegalValues) :
    setBits v IIR_RX_PENDING ∈ iirLegalValues ∧ clearBits v IIR_RX_PENDING ∈ iirLegalValues ∧
    afterDataWrite v ∈ iirLegalValues := by
  unfold iirLegalValues at hv
  fin_cases hv <;> decide

theorem UartChange.legal {u u' : Uart} {i : Instr} (h : UartChange u i u') (hlegal : u.Legal) : u'.Legal where
  lineStatus := by
    obtain ⟨hset, hclear⟩ := lsrLegalValues_closed hlegal.lineStatus
    obtain hu | ⟨-, hu⟩ | ⟨-, hu⟩ | ⟨-, hu⟩ := h.lineStatus_cases <;> rw [hu]
    · exact hlegal.lineStatus
    · exact hset
    · exact hclear
    · simp [lsrLegalValues]
  interruptIdentification := by
    obtain ⟨hset, hclear, hwrite⟩ := iirLegalValues_closed hlegal.interruptIdentification
    obtain hu | ⟨-, hu⟩ | ⟨-, hu⟩ | ⟨-, hu⟩ | ⟨-, hu⟩ := h.interruptIdentification_cases <;> rw [hu]
    · exact hlegal.interruptIdentification
    · exact hset
    · exact hclear
    · exact hwrite
    · simp [iirLegalValues]
  noTransmitCause := by
    obtain ⟨-, -, hthre, -⟩ := h.interruptIdentification_flags
    exact hthre hlegal.noTransmitCause

/-- Ingress sets both bits, and what clears the ready bit clears the cause. -/
theorem UartChange.pendingHasByte {u u' : Uart} {i : Instr} (h : UartChange u i u') (hu : u.PendingHasByte) :
    u'.PendingHasByte := by
  unfold Uart.PendingHasByte Uart.dataReady at *
  cases h with
  | readData => simp (disch := decide) [anySet_clearBits_of_covered]
  | readIdentification => simp [idleValue_flags]
  | writeData v => simpa (disch := decide) [afterDataWrite_eq_clearBits, anySet_clearBits_of_disjoint] using hu
  | ingress b => simp [anySet_setBits, readyMask_flags]
  | reset => simp [Uart.restoreDefaults, idleValue_flags]
  | _ => exact hu

theorem clockCurrent_clkcStore (c : Clkc) (s : State) : ClockCurrent (clkcStore c s).clkc (clkcStore c s).out := by
  rw [clkcStore_eq]
  exact ⟨.inr rfl, by simp⟩

theorem clockCurrent_effectOf (i : Instr) {s : State} (h : ClockCurrent s.clkc s.out) :
    ClockCurrent (effectOf i s).clkc (effectOf i s).out := by
  obtain ⟨c, -, heffect⟩ | ⟨-, hclkc, hscale, hpub⟩ := effectOf_clock_cases i s
  · rw [heffect]
    exact clockCurrent_clkcStore c s
  · rw [hclkc]
    exact ⟨by rw [hscale]; exact h.scale, by rw [hscale, hpub]; exact h.lastPublished⟩

theorem not_readable_not_writable_of_not_named {off : Offset} (h : off ∉ uartNamedOffsets) :
    off ∉ ([0x000, 0x004, 0x008, 0x014] : List Offset) ∧ off ∉ ([0x000, 0x004, 0x008, 0x00C] : List Offset) := by
  simp_all [uartNamedOffsets]

/-- A well-formed operation stops the block only with the error of an access that has nothing behind it (R160). -/
theorem effectOf_halted_unsupported {i : Instr} (hi : i.wf = true) {s : State} (hs : s.halted = none) {e : FatalError}
    (h : (effectOf i s).halted = some e) : unsupportedAccess e := by
  cases i with
  | uartRdLcr | uartRdMcr | uartRdMsr | uartRdScr =>
    cases h
    exact ⟨rfl, by decide⟩
  | uartWrMcr v | uartWrLsr v | uartWrMsr v | uartWrScr v =>
    cases h
    exact ⟨rfl, by decide⟩
  | uartRdOther off =>
    cases h
    exact ⟨rfl, (not_readable_not_writable_of_not_named (by simpa [Instr.wf] using hi)).1⟩
  | uartWrOther off v =>
    cases h
    exact ⟨rfl, (not_readable_not_writable_of_not_named (by simpa [Instr.wf] using hi)).2⟩
  | uartWrData v => simp [effectOf, transmit_eq, irqRecompute_eq, hs] at h
  | uartRx b => simp [effectOf, irqRecompute_eq, hs] at h
  | clkcWrPll0ctl v | clkcWrPll0cfg v | clkcWrCpuclkdiv v | clkcWrClksrc v => simp [effectOf, clkcStore_eq, hs] at h
  | _ => exact absurd (hs.symm.trans h) nofun

theorem effectOf_inv {i : Instr} (hi : i.wf = true) {s : State} (hs : s.halted = none) (hinv : s.Inv) :
    (effectOf i s).Inv where
  uart := (uartChange_effectOf i s).legal hinv.uart
  pendingHasByte := (uartChange_effectOf i s).pendingHasByte hinv.pendingHasByte
  clock := clockCurrent_effectOf i hinv.clock
  halted := fun _ => effectOf_halted_unsupported hi hs

/-- The invariant looks at the registers, the clock outputs and `halted` only. -/
theorem State.Inv.congr {s t : State} (hinv : s.Inv) (huart : t.uart = s.uart) (hclkc : t.clkc = s.clkc)
    (hout : t.out = s.out) (hhalted : t.halted = s.halted) : t.Inv where
  uart := huart ▸ hinv.uart
  pendingHasByte := huart ▸ hinv.pendingHasByte
  clock := hclkc ▸ hout ▸ hinv.clock
  halted := hhalted ▸ hinv.halted

/-- Settles O49: the idle step changes nothing, and a decoded operation is well formed and keeps the invariant. -/
theorem everyStepKeepsTheInvariant : Obligations.EveryStepKeepsTheInvariant := by
  intro s t hinv h
  obtain rfl | ⟨i, rest, r, hi, hs, rfl⟩ := step_eq_next_cases h
  · exact hinv
  · have hqueue : State.Inv { s with pending := rest } := hinv.congr rfl rfl rfl rfl
    exact (effectOf_inv (s := { s with pending := rest }) hi hs hqueue).congr rfl rfl rfl rfl

end Sys2Proof.Machine
end

section
/-!
SUPPORT. The host-access rules of 20_memory.md: what the step takes off the queue (R57, R58), which host accesses never reach the block
(R51, R55), the bits a narrow access keeps (R53, R55), the two slaves' answers to an offset with nothing behind it (R54, R97), and which
operations can be repeated (R56).
-/

namespace Sys2Proof.Machine

/-! ### The step and the queue (R57, R58) -/

/-- Settles O6: the step on the oldest request, whose answer a transaction word takes in 32 bits. -/
theorem stepPerformsTheDecodedOperation : Obligations.StepPerformsTheDecodedOperation :=
  fun _ _ _ _ _ hrun hpend hdec => (stepWith_of_decode hrun hpend rfl hdec).trans (deliver_word _)

/-- Settles O11: the idle step leaves the empty queue, and no operation touches the queue that its request was taken off. -/
theorem stepTakesExactlyTheOldestRequest : Obligations.StepTakesExactlyTheOldestRequest := by
  intro s t h
  obtain ⟨-, ⟨hnil, rfl⟩ | ⟨req, rest, sel, v, i, u, hcons, -, -, hu, rfl⟩⟩ := stepWith_eq_next_iff.mp h
  · rw [hnil, List.tail_nil]
  · obtain ⟨-, -, rfl⟩ := exec_eq_next_iff.mp hu
    rw [hcons, List.tail_cons]
    exact (effectOf_pending_and_parameters i { s with pending := rest }).1

/-! ### Host accesses that never reach the block (R51, R55) -/

theorem stepWith_of_requestWord_error {m : Config.MemoryMap} {s : State} {req : Request} {rest : List Request} {r : Refusal}
    (hrun : s.running) (hpend : s.pending = req :: rest) (hreq : requestWord m req = .error r) :
    stepWith m s = .refused r := by
  have hhalt : s.halted = none := hrun
  simp [stepWith, nextOperation, hhalt, hpend, hreq]

/-- A host load and a host store that no transaction stands for are both refused. -/
theorem stepWith_hostAccess_of_error {m : Config.MemoryMap} {s : State} {addr : Word} {size : AccessSize} {r : Refusal}
    (hrun : s.running) (herr : ∀ dir v, hostTransaction m dir addr size v = .error r) (v : Word) (rest : List Request) :
    stepWith m { s with pending := .load addr size :: rest } = .refused r ∧
      stepWith m { s with pending := .store addr size v :: rest } = .refused r :=
  ⟨stepWith_of_requestWord_error (s := { s with pending := .load addr size :: rest }) hrun rfl (herr .read 0),
    stepWith_of_requestWord_error (s := { s with pending := .store addr size v :: rest }) hrun rfl (herr .write v)⟩

theorem hostTransaction_wider (m : Config.MemoryMap) (dir : Dir) (addr v : Word) :
    hostTransaction m dir addr .wider v = .error .accessTooWide := rfl

theorem hostTransaction_of_route_none {m : Config.MemoryMap} {addr : Word} {size : AccessSize} (hm : m.wf = true)
    (hsize : size ≠ .wider) (hroute : route m addr = none) (dir : Dir) (v : Word) :
    hostTransaction m dir addr size v = .error .addressOutsideWindows := by
  simp [hostTransaction, hsize, hm, hroute]

theorem route_eq_none {m : Config.MemoryMap} {addr : Word}
    (huart : ¬ (m.uartBase.toNat ≤ addr.toNat ∧ addr.toNat < m.uartBase.toNat + m.uartWindow))
    (hclkc : ¬ (m.clkcBase.toNat ≤ addr.toNat ∧ addr.toNat < m.clkcBase.toNat + m.clkcWindow)) : route m addr = none :=
  (if_neg huart).trans (if_neg hclkc)

/-- Settles O13: neither a size above 32 bits nor an address without an owner has a transaction. -/
theorem hostAccessTheBlockNeverSeesIsRefused : Obligations.HostAccessTheBlockNeverSeesIsRefused := by
  intro m s addr size v rest hrun
  constructor
  · exact stepWith_hostAccess_of_error hrun (fun dir w => hostTransaction_wider m dir addr w) v rest
  · intro hm hsize huart hclkc
    exact stepWith_hostAccess_of_error hrun (hostTransaction_of_route_none hm hsize (route_eq_none huart hclkc)) v rest

/-! ### Byte lanes (R53, R55) -/

/-- A lane joined below the bits next to it. -/
theorem extractLsb'_append_byteLane (v : Word) (k n : Nat) :
    v.extractLsb' (8 * k + 8) n ++ byteLane k v = v.extractLsb' (8 * k) (n + 8) :=
  BitVec.extractLsb'_append_extractLsb'_eq_extractLsb' rfl

theorem toNat_lowBits {n : Nat} (hn : n ≤ 32) (v : Word) : ((v.extractLsb' 0 n).setWidth 32).toNat = v.toNat % 2 ^ n := by
  rw [BitVec.toNat_setWidth_of_le hn, BitVec.extractLsb'_toNat, Nat.shiftRight_zero]

/-- Settles O14: the lanes, joined one by one, are the low bits of the value, and all four are the value. -/
theorem byteLanesAreLittleEndian : Obligations.ByteLanesAreLittleEndian := by
  intro v
  refine ⟨toNat_lowBits (n := 8) (by decide) v, ?_, rfl, ?_⟩
  · have hlow : byteLane 1 v ++ byteLane 0 v = v.extractLsb' 0 16 := extractLsb'_append_byteLane v 0 8
    rw [keepLow, hlow]
    exact toNat_lowBits (by decide) v
  · have htwo : byteLane 3 v ++ byteLane 2 v = v.extractLsb' 16 16 := extractLsb'_append_byteLane v 2 8
    have hthree : v.extractLsb' 16 16 ++ byteLane 1 v = v.extractLsb' 8 24 := extractLsb'_append_byteLane v 1 16
    have hfour : v.extractLsb' 8 24 ++ byteLane 0 v = v.extractLsb' 0 32 := extractLsb'_append_byteLane v 0 24
    rw [htwo, hthree, hfour, BitVec.extractLsb'_eq_self]

/-! ### Offsets with nothing behind them (R54, R97) -/

theorem uartBusRead_of_unsupported {off : Offset} (h : off ∉ ([0x000, 0x004, 0x008, 0x014] : List Offset)) (s : State) :
    uartBusRead off s = operate (raiseFatal .uart .read off) s := by
  simp_all [uartBusRead]

theorem uartBusWrite_of_unsupported {off : Offset} (h : off ∉ ([0x000, 0x004, 0x008, 0x00C] : List Offset)) (v : Word)
    (s : State) : uartBusWrite off v s = operate (raiseFatal .uart .write off) s := by
  simp_all [uartBusWrite]

theorem clkcBusRead_of_no_register {off : Offset} (h : off ∉ ([0x080, 0x084, 0x088, 0x104, 0x10C] : List Offset))
    (s : State) : clkcBusRead off s = operate (answer 0) s := by
  simp_all [clkcBusRead]

theorem clkcBusWrite_of_no_register {off : Offset} (h : off ∉ ([0x080, 0x084, 0x104, 0x10C] : List Offset)) (v : Word)
    (s : State) : clkcBusWrite off v s = operate complete s := by
  simp_all [clkcBusWrite]

/-- An operation of the CLKC in a running block is performed. -/
theorem exec_clkc_of_running {i : Instr} {s : State} (hrun : s.running) (hi : isClkcOperation i = true) :
    exec i s = .next (effectOf i s) :=
  exec_eq_next_iff.mpr ⟨hrun, fun hb => absurd hb (agent_ne_backend_of_isClkcOperation hi), rfl⟩

/-- Settles O38: the effect of a named read without a register is `clkcReadsZero`, and any other offset falls through the chain of R93. -/
theorem otherClockReadsReturnZero : Obligations.OtherClockReadsReturnZero := by
  intro s hrun
  constructor
  · refine ⟨?_, ?_, ?_, ?_, ?_, ?_, ?_, ?_, ?_, fun off => ?_⟩ <;> exact exec_clkc_of_running hrun rfl
  · intro off v hoff
    obtain ⟨i, hdec, hexec⟩ := exec_decode_clkcRead s off v
    rw [clkcBusRead_of_no_register hoff, operate_of_running hrun] at hexec
    exact ⟨i, hdec, hexec⟩

/-- Settles O41: the effect of a named write without a register is `clkcIgnores`, and any other offset falls through the chain of R93. -/
theorem otherClockWritesChangeNothing : Obligations.OtherClockWritesChangeNothing := by
  intro s v hrun
  constructor
  · refine ⟨?_, ?_, ?_, ?_, ?_, ?_, ?_, ?_, ?_, fun off => ?_⟩ <;> exact exec_clkc_of_running hrun rfl
  · intro off hoff
    have hregister : off ∉ ([0x080, 0x084, 0x104, 0x10C] : List Offset) := by simp_all
    obtain ⟨i, hdec, hexec⟩ := exec_decode_clkcWrite s off v
    rw [clkcBusWrite_of_no_register hregister, operate_of_running hrun] at hexec
    exact ⟨i, hdec, hexec⟩

/-- A presented bus transaction is the access of the contract, answered in 32 bits (R90). -/
theorem step_busTransaction {s : State} (hrun : s.running) (unit : BusUnit) (dir : Dir) (off : Offset) (v : Word)
    (rest : List Request) :
    step { s with pending := .transaction (busSelector unit dir off) v :: rest } =
      busAccess unit dir off v { s with pending := rest } :=
  (stepWith_of_busSelector (s := { s with pending := .transaction (busSelector unit dir off) v :: rest }) hrun rfl rfl).trans
    (deliver_word _)

/-- Settles O51: such an offset falls through the chain of its entry point, to the fatal error on the UART and to the answer on the
CLKC. -/
theorem theTwoSlavesDifferOnUnsupportedOffsets : Obligations.TheTwoSlavesDifferOnUnsupportedOffsets := by
  intro s off v rest hrun
  have hqueue : State.running { s with pending := rest } := hrun
  refine ⟨fun hoff => ?_, fun hoff => ?_, fun hoff => ?_, fun hoff => ?_⟩ <;>
    rw [step_busTransaction hrun, busAccess]
  · rw [uartBusRead_of_unsupported hoff, operate_of_running hqueue]
    exact ⟨_, rfl, rfl⟩
  · rw [uartBusWrite_of_unsupported hoff, operate_of_running hqueue]
    exact ⟨_, rfl, rfl⟩
  · rw [clkcBusRead_of_no_register hoff, operate_of_running hqueue]
    rfl
  · rw [clkcBusWrite_of_no_register hoff, operate_of_running hqueue]
    rfl

/-! ### Side effects and repetition (R56) -/

theorem effectOf_of_isPureRead {i : Instr} (h : isPureRead i = true) (s : State) :
    effectOf i s = { s with response := (effectOf i s).response } := by
  unfold isPureRead at h
  split at h
  case h_20 => cases h
  all_goals rfl

theorem effectOf_halted_of_unsupported {i : Instr} (h : unsupportedOperation i = true) (s : State) :
    (effectOf i s).halted ≠ none := by
  unfold unsupportedOperation at h
  split at h
  case h_11 => cases h
  all_goals exact nofun

/-- The stored value does not depend on the state. -/
theorem effectOf_of_isIdempotentWrite {i : Instr} (h : isIdempotentWrite i = true) (s : State) :
    (effectOf i s).halted = s.halted ∧ effectOf i (effectOf i s) = effectOf i s := by
  unfold isIdempotentWrite at h
  split at h
  case h_6 => cases h
  all_goals exact ⟨rfl, rfl⟩

/-- An operation that did not stop the block has a step again: it left the attachment alone. -/
theorem exec_again {i : Instr} {s t : State} (h : exec i s = .next t) (hhalted : t.halted = none) :
    exec i t = .next (effectOf i t) := by
  obtain ⟨-, hattached, rfl⟩ := exec_eq_next_iff.mp h
  obtain ⟨-, -, hkept⟩ := effectOf_pending_and_parameters i s
  exact exec_eq_next_iff.mpr ⟨hhalted, fun hb => hkept.trans (hattached hb), rfl⟩

/-- Storing the same value again leaves the registers of the first store. -/
theorem ClockStore.eq_of_again {c c' c'' : Clkc} {i : Instr} (h : ClockStore c i c') (h' : ClockStore c' i c'') :
    c'' = c' := by
  cases h <;> cases h' <;> rfl

theorem effectOf_of_storesClock {i : Instr} (hi : storesClock i = true) (s : State) :
    ∃ c, ClockStore s.clkc i c ∧ effectOf i s = clkcStore c s := by
  obtain hstore | ⟨hother, -⟩ := effectOf_clock_cases i s
  · exact hstore
  · exact absurd (hi.symm.trans hother) nofun

/-- A clock store leaves the value of its registers published, and done again it is a store of those registers. -/
theorem effectOf_clockStore_again {i : Instr} (hi : storesClock i = true) (s : State) :
    (effectOf i s).halted = s.halted ∧
    (effectOf i s).out.clockScale = some (clkValue (effectOf i s).clkc) ∧
    effectOf i (effectOf i s) = clkcStore (effectOf i s).clkc (effectOf i s) := by
  obtain ⟨c, hc, heffect⟩ := effectOf_of_storesClock hi s
  obtain ⟨c', hc', hagain⟩ := effectOf_of_storesClock hi (clkcStore c s)
  have hclkc : (clkcStore c s).clkc = c := by rw [clkcStore_eq]
  rw [hclkc] at hc'
  rw [heffect, hagain, hc.eq_of_again hc', clkcStore_eq c s]
  exact ⟨rfl, rfl, rfl⟩

/-- A clock store done twice: the same registers, published once more. -/
theorem exec_clockStore_again {i : Instr} (hi : storesClock i = true) {s t : State} (h : exec i s = .next t) :
    ∃ r, exec i t = .next r ∧ r.clkc = t.clkc ∧ r.uart = t.uart ∧
      r.out.published = t.out.published ++ [clkValue t.clkc] ∧ r.out.clockScale = t.out.clockScale := by
  obtain ⟨hrun, -, rfl⟩ := exec_eq_next_iff.mp h
  obtain ⟨hhalted, hscale, hagain⟩ := effectOf_clockStore_again hi s
  refine ⟨_, exec_again h (hhalted.trans hrun), ?_⟩
  rw [hagain, clkcStore_eq, hscale]
  exact ⟨rfl, rfl, rfl, rfl⟩

theorem length_tx_dataWrite (v : Word) {s : State} (hb : s.uart.backendAttached = true) :
    (effectOf (.uartWrData v) s).out.tx.length = s.out.tx.length + 1 := by
  simp [effectOf, irqRecompute_eq, transmit_eq, hb]

/-- The constructed block after the ingress of one byte: the ready bit and the receive cause are set. -/
def constructedWithByte : State := effectOf (.uartRx 0x41) (State.construct 4000000 true)

theorem dataRead_changes_lineStatus :
    (effectOf .uartRdData constructedWithByte).uart.lineStatus ≠ constructedWithByte.uart.lineStatus := by decide

theorem identificationRead_changes_register :
    (effectOf .uartRdIir constructedWithByte).uart.interruptIdentification ≠
      constructedWithByte.uart.interruptIdentification := by decide

/-- Settles O52: each clause is the effect of its class of operations, and the two reads with a side effect are run on a waiting byte. -/
theorem sideEffectsOfReadsAndRepeatedWrites : Obligations.SideEffectsOfReadsAndRepeatedWrites := by
  refine ⟨fun s t i h => ?_, fun s t v h hb => ?_, ⟨constructedWithByte, _, exec_eq_next_iff.mpr ⟨rfl, nofun, rfl⟩, ?_⟩,
    ⟨constructedWithByte, _, exec_eq_next_iff.mpr ⟨rfl, nofun, rfl⟩, ?_⟩⟩
  · obtain ⟨hrun, -, rfl⟩ := exec_eq_next_iff.mp h
    refine ⟨fun hi => effectOf_of_isPureRead hi s, fun hi => effectOf_halted_of_unsupported hi s, fun hi => ?_,
      fun hi => exec_clockStore_again hi h⟩
    obtain ⟨hhalted, hsame⟩ := effectOf_of_isIdempotentWrite hi s
    rw [exec_again h (hhalted.trans hrun), hsame]
  · obtain ⟨-, -, rfl⟩ := exec_eq_next_iff.mp h
    exact length_tx_dataWrite v hb
  · exact fun hsame => dataRead_changes_lineStatus (congrArg (·.uart.lineStatus) hsame)
  · exact fun hsame => identificationRead_changes_register (congrArg (·.uart.interruptIdentification) hsame)

end Sys2Proof.Machine
end

section
/-!
SUPPORT. The decoder and the encoder agree (R72 to R75), the selectors without an operation (R82), and the stored latch mode (R76).
-/

namespace Sys2Proof

/-! ### Decoding what was encoded (R72 to R75) -/

/-- A word of the ingress port carries its byte in the low bits of the operand (R77). -/
theorem decode_uartRx (v : Word) : decode (selectorOf 2 false false 0x000) v = .ok (.uartRx (v.setWidth 8)) := rfl

/-- Settles O2: an operation of an "any other offset" row reaches that row because its offset is none of the named ones; a byte survives
the widening to an operand; every other selector is a literal in either latch mode, and the search through the table is computed. -/
theorem decodeOfEncodedOperation : Obligations.DecodeOfEncodedOperation := by
  intro latch i hi
  cases i with
  | uartRdOther off => exact decode_uartRdOther (by simpa [Instr.wf] using hi) latch 0
  | uartWrOther off v => exact decode_uartWrOther (by simpa [Instr.wf] using hi) latch v
  | clkcRdOther off => exact decode_clkcRdOther (by simpa [Instr.wf] using hi) 0
  | clkcWrOther off v => exact decode_clkcWrOther (by simpa [Instr.wf] using hi) v
  | uartRx b =>
    have hbyte : (b.setWidth 32).setWidth 8 = b := BitVec.setWidth_setWidth_of_le b (by decide)
    exact (decode_uartRx (b.setWidth 32)).trans (by rw [hbyte])
  | _ =>
    simp only [encode, Instr.selector, Instr.operand]
    cases latch <;> rfl

/-! ### Encoding what was decoded (R72 to R75) -/

/-- Each row builds operations whose selector is the word that the row covers. -/
theorem selector_build_of_covers {unit : BitVec 2} {latch write : Bool} {off : Offset} (v : Word) :
    ∀ r ∈ operationRows, r.covers (selectorOf unit latch write off) = true →
      (r.build off v).selector latch = selectorOf unit latch write off := by
  simp only [operationRows, List.forall_mem_append]
  refine ⟨⟨⟨⟨?_, ?_⟩, ?_⟩, ?_⟩, ?_⟩
  · simp +contextual [uartReadRows_fields, covers_full, covers_anyLatch, covers_uartOther, Instr.selector]
  · simp +contextual [uartWriteRows_fields, covers_full, covers_anyLatch, covers_uartOther, Instr.selector]
  · simp +contextual [portRows_fields, covers_full, Instr.selector]
  · simp +contextual [clkcReadRows_fields, covers_full, covers_clkcOther, Instr.selector]
  · simp +contextual [clkcWriteRows_fields, covers_full, covers_clkcOther, Instr.selector]

theorem exists_row_of_decode {sel : Selector} {v : Word} {i : Instr} (h : decode sel v = .ok i) :
    ∃ r ∈ operationRows, r.covers sel = true ∧ r.build (offsetField sel) v = i := by
  unfold decode at h
  split at h
  case h_1 r hfind =>
    exact ⟨r, List.mem_of_find?_eq_some hfind, by simpa using List.find?_some hfind, Except.ok.inj h⟩
  case h_2 => cases h

/-- Settles O3: what the decoder reads was built by a row that covers the word. -/
theorem decodedOperationReencodesToItsSelector : Obligations.DecodedOperationReencodesToItsSelector := by
  intro sel v i h
  refine ⟨wf_of_decode h, ?_⟩
  obtain ⟨r, hr, hcovers, rfl⟩ := exists_row_of_decode h
  rw [← selectorOf_fields sel] at hcovers
  exact (selector_build_of_covers v r hr hcovers).trans (selectorOf_fields sel)

/-! ### The selectors that no row covers (R82) -/

theorem exists_decode_error_iff {sel : Selector} {v : Word} :
    (∃ e, decode sel v = .error e) ↔ ∀ r ∈ operationRows, r.covers sel = false := by
  unfold decode
  split
  case h_1 r hfind =>
    have hcovers : r.covers sel = true := by simpa using List.find?_some hfind
    simpa using ⟨r, List.mem_of_find?_eq_some hfind, hcovers⟩
  case h_2 hnone => simpa using hnone

section
variable {unit : BitVec 2} {latch write : Bool} {off : Offset}

/-- The UART rows cover the whole window, by their last row in each direction (R74). -/
theorem uartRows_uncovered_iff :
    (∀ r ∈ uartReadRows ++ uartWriteRows, r.covers (selectorOf unit latch write off) = false) ↔ unit ≠ 0#2 := by
  constructor
  · rintro h rfl
    cases write <;> simp [uartReadRows_fields, uartWriteRows_fields, covers_full, covers_anyLatch, covers_uartOther] at h
  · intro hunit
    simp [uartReadRows_fields, uartWriteRows_fields, covers_full, covers_anyLatch, covers_uartOther, hunit]

/-- The port rows cover the calls of the four ports (R74). -/
theorem portRows_uncovered_iff :
    (∀ r ∈ portRows, r.covers (selectorOf unit latch write off) = false) ↔
      ¬ (unit = 2#2 ∧ latch = false ∧ write = false ∧ off ∈ ([0, 1, 2, 3] : List Offset)) := by
  simp [portRows_fields, covers_full, imp_and]

/-- The CLKC rows cover the window outside latch mode, by their last row in each direction (R75). -/
theorem clkcRows_uncovered_iff :
    (∀ r ∈ clkcReadRows ++ clkcWriteRows, r.covers (selectorOf unit latch write off) = false) ↔
      ¬ (unit = 1#2 ∧ latch = false) := by
  constructor
  · rintro h ⟨rfl, rfl⟩
    cases write <;> simp [clkcReadRows_fields, clkcWriteRows_fields, covers_full, covers_clkcOther] at h
  · intro hunit
    have hlatch : unit = 1#2 → latch = true := by simpa using hunit
    simp +contextual [clkcReadRows_fields, clkcWriteRows_fields, covers_full, covers_clkcOther, hlatch]

theorem operationRows_uncovered_iff :
    (∀ r ∈ operationRows, r.covers (selectorOf unit latch write off) = false) ↔
      unit ≠ 0#2 ∧ ¬ (unit = 2#2 ∧ latch = false ∧ write = false ∧ off ∈ ([0, 1, 2, 3] : List Offset)) ∧
      ¬ (unit = 1#2 ∧ latch = false) := by
  have hgroups : operationRows = (uartReadRows ++ uartWriteRows) ++ (portRows ++ (clkcReadRows ++ clkcWriteRows)) := rfl
  rw [hgroups]
  exact List.forall_mem_append.trans (and_congr uartRows_uncovered_iff
    (List.forall_mem_append.trans (and_congr portRows_uncovered_iff clkcRows_uncovered_iff)))

end

theorem mem_ports_iff (off : Offset) : off ∈ ([0, 1, 2, 3] : List Offset) ↔ ¬ 3 < off.toNat := by
  simp only [List.mem_cons, List.not_mem_nil, or_false]
  bv_omega

/-- Settles O4: the selectors that no group of rows covers, unit by unit. -/
theorem selectorRefusedExactlyWhenNoRowCoversIt : Obligations.SelectorRefusedExactlyWhenNoRowCoversIt := by
  intro sel v
  have hunits : ∀ unit : BitVec 2, unit = 0 ∨ unit = 1 ∨ unit = 2 ∨ unit = 3 := by decide
  rw [exists_decode_error_iff, ← selectorOf_fields sel, operationRows_uncovered_iff, selectorOf_fields, mem_ports_iff]
  obtain hunit | hunit | hunit | hunit := hunits (unitField sel)
  · simp [hunit]
  · simp [hunit]
  · cases latchField sel <;> cases writeField sel <;> simp [hunit]
  · simp [hunit]

/-- Settles O1: each word is looked up in the table. -/
theorem decodeReadsSampleWordsOfEveryFamily : Obligations.DecodeReadsSampleWordsOfEveryFamily := by
  unfold Obligations.DecodeReadsSampleWordsOfEveryFamily
  decide

end Sys2Proof

namespace Sys2Proof.Machine

/-! ### The stored latch mode (R76, R115) -/

/-- Settles O5: filling in replaces the latch field alone, and the stored mode is bit 7 of line-control (R28). -/
theorem decoderFillsInTheStoredLatchBit : Obligations.DecoderFillsInTheStoredLatchBit := by
  intro u sel
  constructor
  · intro hunit
    simp [fillLatch, setLatchField, hunit, latchOn_eq]
  · exact fillLatch_of_unitField_ne_zero u

/-- Settles O25: the write stores the value, so that every later selector of the UART window has its bit 7 filled in, and these are then
the selectors of the divisor operations or of the data-side operations; `UART.RD.LCR` has both. -/
theorem lineControlWriteSetsTheLatchMode : Obligations.LineControlWriteSetsTheLatchMode := by
  refine ⟨fun v => ⟨rfl, rfl⟩, fun s v w hrun => ?_⟩
  refine ⟨effectOf (.uartWrLcr v) s, exec_eq_next_iff.mpr ⟨hrun, nofun, rfl⟩, rfl, ?_⟩
  have hlatch : (effectOf (.uartWrLcr v) s).uart.latchOn = v.getLsbD 7 := latchOn_eq _
  simp only [busSelector, fillLatch_uart, hlatch]
  refine ⟨fun hset => ?_, fun hclear => ?_, ?_, ?_⟩
  · rw [hset]
    exact ⟨decodeOfEncodedOperation true .uartRdDivlo rfl, decodeOfEncodedOperation true .uartRdDivhi rfl,
      decodeOfEncodedOperation true (.uartWrDivlo w) rfl, decodeOfEncodedOperation true (.uartWrDivhi w) rfl⟩
  · rw [hclear]
    exact ⟨decodeOfEncodedOperation false .uartRdData rfl, decodeOfEncodedOperation false .uartRdIer rfl,
      decodeOfEncodedOperation false (.uartWrData w) rfl, decodeOfEncodedOperation false (.uartWrIer w) rfl⟩
  · exact decodeOfEncodedOperation (v.getLsbD 7) .uartRdLcr rfl
  · exact ⟨_, exec_eq_next_iff.mpr ⟨hrun, nofun, rfl⟩, rfl⟩

/-- Settles O22: the effect of each of the two writes. -/
theorem divisorLatchWritesKeepSixteenBits : Obligations.DivisorLatchWritesKeepSixteenBits :=
  fun _ _ hrun => ⟨exec_eq_next_iff.mpr ⟨hrun, nofun, rfl⟩, exec_eq_next_iff.mpr ⟨hrun, nofun, rfl⟩⟩

/-! ### The step on a word without an operation (R82) -/

theorem stepWith_of_decode_error {m : Config.MemoryMap} {s : State} {req : Request} {rest : List Request} {sel : Selector}
    {v : Word} {e : SelectorError} (hrun : s.running) (hpend : s.pending = req :: rest)
    (hreq : requestWord m req = .ok (sel, v)) (hdec : decode (fillLatch s.uart sel) v = .error e) :
    stepWith m s = .refused (.undecodable e) := by
  have hhalt : s.halted = none := hrun
  simp [stepWith, nextOperation, performWord, hhalt, hpend, hreq, hdec]

/-- Settles O10: a transaction word is its own request word. -/
theorem stepRefusesAWordThatSpellsNoOperation : Obligations.StepRefusesAWordThatSpellsNoOperation :=
  fun _ _ _ _ _ hrun hpend hdec => stepWith_of_decode_error hrun hpend rfl hdec

end Sys2Proof.Machine
end

section
/-!
SUPPORT. The dispatch rules of 40_bus_dispatch.md: the step on a bus transaction (R90, R92, R93), and what stops the block (R94, R160,
R162).
-/

namespace Sys2Proof.Machine

/-- Settles O7: the table spells the access of the contract, which a transaction answers in 32 bits. -/
theorem stepOnABusTransactionIsTheContractAccess : Obligations.StepOnABusTransactionIsTheContractAccess :=
  fun _ _ _ _ _ _ hpend =>
    ⟨fun hrun => (stepWith_of_busSelector hrun hpend rfl).trans (deliver_word _), fun _ => stepWith_of_halted⟩

/-! ### The fatal accesses (R94, R160, R162) -/

/-- Each of the ten operations raises the error of its direction and offset. -/
theorem effectOf_of_unsupported {i : Instr} (h : unsupportedOperation i = true) (s : State) :
    ∃ dir off, effectOf i s = raiseFatal .uart dir off s := by
  unfold unsupportedOperation at h
  split at h
  case h_11 => cases h
  all_goals exact ⟨_, _, rfl⟩

theorem effectOf_halted_of_supported {i : Instr} (h : unsupportedOperation i = false) (s : State) :
    (effectOf i s).halted = s.halted := by
  cases i with
  | uartRdLcr | uartRdMcr | uartRdMsr | uartRdScr | uartRdOther off => cases h
  | uartWrMcr v | uartWrLsr v | uartWrMsr v | uartWrScr v | uartWrOther off v => cases h
  | uartWrData v => simp [effectOf, transmit_eq, irqRecompute_eq]
  | uartRx b => simp [effectOf, irqRecompute_eq]
  | clkcWrPll0ctl v | clkcWrPll0cfg v | clkcWrCpuclkdiv v | clkcWrClksrc v => simp [effectOf, clkcStore_eq]
  | _ => rfl

/-- Settles O50: one of the ten operations is `raiseFatal`, and any other leaves the running block running. -/
theorem onlyUnsupportedUartAccessesStopTheBlock : Obligations.OnlyUnsupportedUartAccessesStopTheBlock := by
  intro s t i h
  obtain ⟨hrun, -, rfl⟩ := exec_eq_next_iff.mp h
  cases hi : unsupportedOperation i with
  | true =>
    obtain ⟨dir, off, heffect⟩ := effectOf_of_unsupported hi s
    rw [heffect]
    refine ⟨by simp, fun e he => ?_⟩
    cases he
    exact ⟨rfl, rfl, rfl, rfl⟩
  | false => simp [effectOf_halted_of_supported hi, hrun]

/-- An access to a UART offset with nothing behind it, in a running block: `halted`, one diagnostic and the fault as answer. -/
theorem operate_uartUnsupported {s : State} (hrun : s.running) (dir : Dir) (off : Offset) :
    operate (uartUnsupported dir off) s = .next { s with
      out := { s.out with diag := s.out.diag ++ [.unsupportedOffset ⟨.uart, dir, off⟩] }
      halted := some ⟨.uart, dir, off⟩
      response := .fatal ⟨.uart, dir, off⟩ } :=
  operate_of_running hrun

/-- Settles O20: the five reads are the unsupported access at their offsets. -/
theorem unsupportedUartReadStopsTheBlock : Obligations.UnsupportedUartReadStopsTheBlock :=
  fun _ hrun =>
    ⟨operate_uartUnsupported hrun .read 0x00C, operate_uartUnsupported hrun .read 0x010,
      operate_uartUnsupported hrun .read 0x018, operate_uartUnsupported hrun .read 0x01C, operate_uartUnsupported hrun .read⟩

/-- Settles O26: the five writes are the unsupported access at their offsets, whatever the value. -/
theorem unsupportedUartWriteStopsTheBlock : Obligations.UnsupportedUartWriteStopsTheBlock :=
  fun _ _ hrun =>
    ⟨operate_uartUnsupported hrun .write 0x010, operate_uartUnsupported hrun .write 0x014,
      operate_uartUnsupported hrun .write 0x018, operate_uartUnsupported hrun .write 0x01C,
      operate_uartUnsupported hrun .write⟩

end Sys2Proof.Machine
end

section
/-!
SUPPORT. The UART reads of 41_uart_read.md: the value each one answers, what it clears, and what a second read finds (R100 to R105).
-/

namespace Sys2Proof.Machine

/-! ### The data read (R100) -/

/-- Bits already cleared stay as they are. -/
theorem clearBits_clearBits_same (v m : Word) : clearBits (clearBits v m) m = clearBits v m := by
  simp only [clearBits, BitVec.and_assoc, BitVec.and_self]

/-- A data read frees the receive buffer. -/
theorem canReceive_effectOf_dataRead (s : State) : (effectOf .uartRdData s).uart.canReceive = true := by
  have hready : anySet (clearBits s.uart.lineStatus LSR_RDR) LSR_RDR = false := anySet_clearBits_of_covered (by decide) _
  simp [effectOf, Uart.canReceive, Uart.dataReady, hready]

/-- A second data read finds both flags cleared and the same byte in the buffer. -/
theorem effectOf_dataRead_again (s : State) : effectOf .uartRdData (effectOf .uartRdData s) = effectOf .uartRdData s := by
  simp [effectOf, answer, withUart, clearBits_clearBits_same]

/-- Settles O15: the effect of the read, which frees the buffer and leaves nothing for a second read to do. -/
theorem dataReadReturnsTheByteAndFreesTheBuffer : Obligations.DataReadReturnsTheByteAndFreesTheBuffer := by
  intro s hrun
  have hread : exec .uartRdData s = .next (effectOf .uartRdData s) := exec_eq_next_iff.mpr ⟨hrun, nofun, rfl⟩
  have hagain : exec .uartRdData (effectOf .uartRdData s) = .next (effectOf .uartRdData s) :=
    (exec_again hread hrun).trans (congrArg _ (effectOf_dataRead_again s))
  exact ⟨_, hread, rfl, canReceive_effectOf_dataRead s, hagain⟩

/-! ### The identification read (R104) -/

/-- Settles O18: the effect of the read; the register is then `IIR_IDLE`, which a second read answers and stores again. The ready bit is
in a register that the read does not touch. -/
theorem identificationReadReturnsTheValueThenResetsIt : Obligations.IdentificationReadReturnsTheValueThenResetsIt := by
  intro s hrun
  have hread : exec .uartRdIir s = .next (effectOf .uartRdIir s) := exec_eq_next_iff.mpr ⟨hrun, nofun, rfl⟩
  exact ⟨_, hread, rfl, rfl, exec_again hread hrun⟩

/-! ### The line-status read (R105) -/

/-- A legal line-status says whether a byte is waiting (R43 item 1). -/
theorem lineStatus_canReceive_of_legal {u : Uart} (h : u.lineStatus ∈ lsrLegalValues) :
    (u.lineStatus = LSR_TXE ∧ u.canReceive = true) ∨ (u.lineStatus = LSR_TXE ||| LSR_RDR ∧ u.canReceive = false) := by
  unfold Uart.canReceive Uart.dataReady
  obtain hidle | hwaiting : u.lineStatus = LSR_TXE ∨ u.lineStatus = LSR_TXE ||| LSR_RDR := by simpa [lsrLegalValues] using h
  · rw [hidle]
    exact .inl ⟨rfl, by decide⟩
  · rw [hwaiting]
    exact .inr ⟨rfl, by decide⟩

/-- Settles O19: both selectors are looked up in the table, the read is its effect, and each of the two legal values has transmit-empty
set already. -/
theorem lineStatusReadForcesTransmitEmpty : Obligations.LineStatusReadForcesTransmitEmpty := by
  refine ⟨fun v => ⟨rfl, rfl⟩, fun s hrun => ⟨exec_eq_next_iff.mpr ⟨hrun, nofun, rfl⟩, fun hlegal => ?_⟩⟩
  obtain ⟨hvalue, hready⟩ | ⟨hvalue, hready⟩ := lineStatus_canReceive_of_legal hlegal
  · rw [hvalue, hready]
    exact ⟨by decide, fun _ => rfl, nofun⟩
  · rw [hvalue, hready]
    exact ⟨by decide, nofun, fun _ => rfl⟩

/-! ### The reads without a side effect (R101 to R103) -/

/-- Settles O16: the selector is looked up in the table, and the effect of the read looks at no register. -/
theorem divisorLowReadsAsZero : Obligations.DivisorLowReadsAsZero :=
  ⟨fun _ => rfl, fun _ hrun => exec_eq_next_iff.mpr ⟨hrun, nofun, rfl⟩⟩

/-- Settles O17: the effect of each of the two reads. -/
theorem interruptEnableAndDivisorHighReadBack : Obligations.InterruptEnableAndDivisorHighReadBack :=
  fun _ hrun => ⟨exec_eq_next_iff.mpr ⟨hrun, nofun, rfl⟩, exec_eq_next_iff.mpr ⟨hrun, nofun, rfl⟩⟩

end Sys2Proof.Machine
end

section
/-!
SUPPORT. The UART writes of 42_uart_write.md that are about the interrupt output: the data write, whose recompute can only find the
receive cause (R110, R121), and the interrupt-enable write, which does not recompute (R112).
-/

namespace Sys2Proof.Machine

/-! ### The data write (R110) -/

/-- The recompute of a data write looks at registers in which the transmit cause is clear again, so the interrupt condition is down to the
receive cause (R120, R121). -/
theorem irqCond_afterDataWrite_iff (u : Uart) :
    ({ u with interruptIdentification := afterDataWrite u.interruptIdentification } : Uart).irqCond = true ↔
      u.interruptEnable &&& IER_RDA_EN ≠ 0 ∧ u.interruptIdentification &&& IIR_RX_PENDING ≠ 0 := by
  have hthre := afterDataWrite_thre u.interruptIdentification
  have hrx := afterDataWrite_rx u.interruptIdentification
  simp [Uart.irqCond, hthre, anySet_iff, hrx]

/-- Settles O21: the effect is the transmission, the three register steps, said as their net effect, and the recompute, which pulses for
the receive cause alone. -/
theorem dataWriteTransmitsAndPulsesOnlyForAPendingByte : Obligations.DataWriteTransmitsAndPulsesOnlyForAPendingByte := by
  intro s v hrun
  refine exec_eq_next_iff.mpr ⟨hrun, nofun, ?_⟩
  simp only [effectOf, transmit_eq, irqRecompute_eq, withUart_uart, withUart_out, irqCond_afterDataWrite_iff]
  rw [afterDataWrite_eq]
  rfl

/-! ### The interrupt-enable write (R112) -/

/-- Settles O23: the effect of the write has no recompute in it. -/
theorem interruptEnableWriteStoresWithoutAPulse : Obligations.InterruptEnableWriteStoresWithoutAPulse :=
  fun _ _ hrun => exec_eq_next_iff.mpr ⟨hrun, nofun, rfl⟩

end Sys2Proof.Machine
end

section
/-!
SUPPORT. The interrupt and the side ports of 43_uart_irq_ingress.md: the interrupt condition (R120), ingress (R123), the readiness query
(R124), the notifier (R125), the block without a backend (R126), and the state table of the identification register (R122).
-/

namespace Sys2Proof.Machine

/-! ### The interrupt condition (R120) -/

/-- Settles O27: each mask of the condition is one bit. -/
theorem interruptConditionByBits : Obligations.InterruptConditionByBits := by
  intro u
  have hrda : anySet u.interruptEnable IER_RDA_EN = u.interruptEnable.getLsbD 0 := anySet_twoPow _ 0 (by decide)
  have hthre : anySet u.interruptEnable IER_THRE_EN = u.interruptEnable.getLsbD 1 := anySet_twoPow _ 1 (by decide)
  have hrx : anySet u.interruptIdentification IIR_RX_PENDING = u.interruptIdentification.getLsbD 2 :=
    anySet_twoPow _ 2 (by decide)
  have htx : anySet u.interruptIdentification IIR_THRE_PENDING = u.interruptIdentification.getLsbD 1 :=
    anySet_twoPow _ 1 (by decide)
  rw [Uart.irqCond, hrda, hthre, hrx, htx]

/-! ### Ingress (R123) -/

/-- The recompute of ingress finds the receive cause set and the transmit cause as it was (R120, R121). -/
theorem irqCond_ingress_iff (u : Uart) (b : Byte) :
    ({ u with
      receiveBuffer := b
      lineStatus := setBits u.lineStatus LSR_RDR
      interruptIdentification := setBits u.interruptIdentification IIR_RX_PENDING } : Uart).irqCond = true ↔
      u.interruptEnable &&& IER_RDA_EN ≠ 0 ∨
      (u.interruptEnable &&& IER_THRE_EN ≠ 0 ∧ u.interruptIdentification &&& IIR_THRE_PENDING ≠ 0) := by
  simp [Uart.irqCond, anySet_setBits, receiveCauseMask_flags, anySet_iff]

/-- Settles O28: the effect is the three register updates and the recompute. -/
theorem ingressStoresTheByteAndPulsesIfEnabled : Obligations.IngressStoresTheByteAndPulsesIfEnabled := by
  intro s b hrun hattached
  refine exec_eq_next_iff.mpr ⟨hrun, fun _ => hattached, ?_⟩
  simp only [effectOf, irqRecompute_eq, withUart_uart, withUart_out, irqCond_ingress_iff]
  rfl

/-! ### The readiness query (R124) -/

theorem canReceive_eq_false_iff (u : Uart) : u.canReceive = false ↔ anySet u.lineStatus LSR_RDR = true := by
  simp [Uart.canReceive, Uart.dataReady]

theorem canReceive_eq_decide (u : Uart) : u.canReceive = decide (u.lineStatus &&& LSR_RDR = 0) := by
  rw [Bool.eq_iff_iff, decide_eq_true_iff, ← anySet_eq_false_iff, Uart.canReceive, Uart.dataReady, Bool.not_eq_true']

theorem canReceive_of_lineStatus_transmitEmpty {u : Uart} (h : u.lineStatus = LSR_TXE) : u.canReceive = true := by
  simp [Uart.canReceive, Uart.dataReady, h, transmitEmptyMask_flags]

theorem canReceive_effectOf_ingress (b : Byte) (s : State) : (effectOf (.uartRx b) s).uart.canReceive = false := by
  simp [effectOf, irqRecompute_eq, canReceive_eq_false_iff, anySet_setBits, readyMask_flags]

/-- The query in a running block with a backend. -/
theorem exec_canrx {s : State} (hrun : s.running) (hattached : s.uart.backendAttached = true) :
    exec .uartCanrx s = .next { s with response := .ready s.uart.canReceive } :=
  exec_eq_next_iff.mpr ⟨hrun, fun _ => hattached, rfl⟩

/-- The query after an operation that does not stop the block answers the readiness that the operation left. -/
theorem exec_canrx_after {i : Instr} {s t : State} {ready : Bool} (h : exec i s = .next t)
    (hi : unsupportedOperation i = false) (hattached : s.uart.backendAttached = true)
    (hready : (effectOf i s).uart.canReceive = ready) : exec .uartCanrx t = .next { t with response := .ready ready } := by
  obtain ⟨hrun, -, rfl⟩ := exec_eq_next_iff.mp h
  obtain ⟨-, -, hkept⟩ := effectOf_pending_and_parameters i s
  rw [exec_canrx ((effectOf_halted_of_supported hi s).trans hrun) (hkept.trans hattached), hready]

/-- Settles O29: the query tests the ready bit; construction and reset leave it clear, ingress sets it, a data read clears it, and by the
table of the status flags (R42) nothing else does. -/
theorem readinessQueryAnswersReadyBitClear : Obligations.ReadinessQueryAnswersReadyBitClear := by
  refine ⟨fun _ => rfl, fun _ _ => canReceive_of_lineStatus_transmitEmpty rfl, fun s hrun hattached => ⟨?_, ?_, ?_, ?_, ?_⟩⟩
  · rw [exec_canrx hrun hattached, canReceive_eq_decide]
  · intro b t h
    exact exec_canrx_after h rfl hattached (canReceive_effectOf_ingress b s)
  · intro t h
    exact exec_canrx_after h rfl hattached (canReceive_effectOf_dataRead s)
  · intro t h
    exact exec_canrx_after h rfl hattached (canReceive_of_lineStatus_transmitEmpty rfl)
  · intro i t hwaiting h hread hreset
    obtain ⟨-, hcleared, -⟩ := statusFlagsChangeOnlyByTheirOperations s t i h
    rw [canReceive_eq_false_iff] at hwaiting ⊢
    by_contra hclear
    exact (hcleared hwaiting (Bool.eq_false_of_not_eq_true hclear)).elim hread hreset

/-! ### The connection-event notifier (R125) -/

/-- Settles O30: the selector is looked up in the table, and the effect is the answer `done`. -/
theorem eventNotifierDoesNothing : Obligations.EventNotifierDoesNothing :=
  ⟨fun _ => rfl, fun _ hrun hattached => exec_eq_next_iff.mpr ⟨hrun, fun _ => hattached, rfl⟩⟩

/-! ### Without a backend (R126) -/

/-- Replace the attachment of the backend. -/
def withAttachment (attached : Bool) (s : State) : State :=
  { s with uart := { s.uart with backendAttached := attached } }

/-- Only the transmission of a data write looks at the attachment. -/
theorem effectOf_withAttachment {i : Instr} (hi : ∀ v, i ≠ .uartWrData v) (attached : Bool) (s : State) :
    effectOf i (withAttachment attached s) = withAttachment attached (effectOf i s) := by
  cases i with
  | uartWrData v => exact absurd rfl (hi v)
  | uartRx b => simp [withAttachment, effectOf, irqRecompute_eq, complete, withUart, Uart.irqCond]
  | clkcWrPll0ctl v | clkcWrPll0cfg v | clkcWrCpuclkdiv v | clkcWrClksrc v =>
    simp [withAttachment, effectOf, clkcStore_eq]
  | _ => rfl

/-- A call of the backend has no step without one. -/
theorem exec_of_detached {i : Instr} (hi : i.agent = .backend) {s : State} (hrun : s.running)
    (hdetached : s.uart.backendAttached = false) : exec i s = .fault .noBackend :=
  (exec_eq_backendCall s hi).trans (backendCall_of_detached hrun hdetached)

/-- Settles O31: a call of the backend has no step without one, and the effect of every other operation but the data write commutes with
a change of the attachment. -/
theorem withoutABackendOnlyItsCallsAndTransmissionDiffer :
    Obligations.WithoutABackendOnlyItsCallsAndTransmissionDiffer := by
  constructor
  · intro s b hrun hdetached
    exact ⟨exec_of_detached rfl hrun hdetached, exec_of_detached rfl hrun hdetached, exec_of_detached rfl hrun hdetached⟩
  · intro s i attached hagent hdata
    exact exec_mapNext (f := withAttachment attached) rfl (fun hbackend => absurd hbackend hagent)
      (effectOf_withAttachment hdata attached s)

/-! ### The state table of the identification register (R122) -/

/-- The entries of the table that are marked `P`: the operation recomputes with the receive cause set. -/
def recomputesWithReceiveCause : Instr → Word → Bool
  | .uartRx _, _ => true
  | .uartWrData _, iir => anySet iir IIR_RX_PENDING
  | _, _ => false

/-! The five columns of the table, each over its four rows. -/

section
variable {iir : Word} (h : iir ∈ iirLegalValues)
include h

theorem iirTable_ingress (b : Byte) : iirTable (.uartRx b) iir = some (setBits iir IIR_RX_PENDING, true) := by
  unfold iirLegalValues at h
  fin_cases h <;> rfl

theorem iirTable_dataRead : iirTable .uartRdData iir = some (clearBits iir IIR_RX_PENDING, false) := by
  unfold iirLegalValues at h
  fin_cases h <;> rfl

theorem iirTable_identificationRead : iirTable .uartRdIir iir = some (IIR_IDLE, false) := by
  unfold iirLegalValues at h
  fin_cases h <;> rfl

theorem iirTable_dataWrite (v : Word) :
    iirTable (.uartWrData v) iir = some (afterDataWrite iir, anySet iir IIR_RX_PENDING) := by
  unfold iirLegalValues at h
  fin_cases h <;> rfl

theorem iirTable_reset : iirTable .uartReset iir = some (IIR_IDLE, false) := by
  unfold iirLegalValues at h
  fin_cases h <;> rfl

end

/-- The table gives the register that the operation leaves. -/
theorem iirTable_eq_effectOf (i : Instr) {s : State} (h : s.uart.interruptIdentification ∈ iirLegalValues) :
    iirTable i s.uart.interruptIdentification =
      some ((effectOf i s).uart.interruptIdentification,
        recomputesWithReceiveCause i s.uart.interruptIdentification) := by
  cases i with
  | uartRx b => simp [iirTable_ingress h, effectOf, irqRecompute_eq, recomputesWithReceiveCause]
  | uartRdData => exact iirTable_dataRead h
  | uartRdIir => exact iirTable_identificationRead h
  | uartWrData v => simp [iirTable_dataWrite h, effectOf, transmit_eq, irqRecompute_eq, recomputesWithReceiveCause]
  | uartReset => exact iirTable_reset h
  | clkcWrPll0ctl v | clkcWrPll0cfg v | clkcWrCpuclkdiv v | clkcWrClksrc v =>
    simp only [effectOf, clkcStore_eq]
    rfl
  | _ => rfl

/-- With no transmit cause pending there is a pulse exactly if the operation recomputes with the receive cause set and the receive
interrupt is enabled. -/
theorem irq_effectOf (i : Instr) {s : State} (h : anySet s.uart.interruptIdentification IIR_THRE_PENDING = false) :
    (effectOf i s).out.irq = s.out.irq +
      (if recomputesWithReceiveCause i s.uart.interruptIdentification = true ∧ s.uart.interruptEnable &&& IER_RDA_EN ≠ 0
        then 1 else 0) := by
  cases i with
  | uartRx b =>
    rw [anySet_eq_false_iff] at h
    simp [effectOf, irqRecompute_eq, irqCond_ingress_iff, recomputesWithReceiveCause, h, add_ite]
  | uartWrData v =>
    simp [effectOf, transmit_eq, irqRecompute_eq, irqCond_afterDataWrite_iff, recomputesWithReceiveCause, anySet_iff,
      and_comm, add_ite]
  | clkcWrPll0ctl v | clkcWrPll0cfg v | clkcWrCpuclkdiv v | clkcWrClksrc v =>
    simp [effectOf, clkcStore_eq, recomputesWithReceiveCause]
  | _ => rfl

/-- Settles O32: the table is read at a legal value, and a legal state has no transmit cause that could pulse. -/
theorem identificationRegisterFollowsTheStateTable : Obligations.IdentificationRegisterFollowsTheStateTable := by
  intro s t i hlegal h
  obtain ⟨-, -, rfl⟩ := exec_eq_next_iff.mp h
  exact ⟨_, _, iirTable_eq_effectOf i hlegal.interruptIdentification, rfl, irq_effectOf i hlegal.noTransmitCause⟩

end Sys2Proof.Machine
end

section
/-!
SUPPORT. The clock-controller accesses of 44_clkc_access.md: the reads with a register behind them (R130 to R134), the four stores (R136
to R139) and the PLL0-feed strobe (R140).
-/

namespace Sys2Proof.Machine

/-! ### The four stores (R136 to R139) -/

@[simp] theorem clkcStore_clkc (c : Clkc) (s : State) : (clkcStore c s).clkc = c := by rw [clkcStore_eq]
@[simp] theorem clkcStore_halted (c : Clkc) (s : State) : (clkcStore c s).halted = s.halted := by rw [clkcStore_eq]

/-- PLL0-control is in none of the fields that the value looks at (R147). -/
theorem clkValue_withPll0Control (c : Clkc) (v : Word) : clkValue { c with pll0Control := v } = clkValue c := rfl

/-- Settles O39: the selectors are looked up in the table, and the effect of each of the four operations is `clkcStore` of the new
registers, which publishes their value without a look at the old one. -/
theorem clockStoresRecomputeAndPublish : Obligations.ClockStoresRecomputeAndPublish := by
  refine ⟨fun v => ⟨rfl, rfl, rfl, rfl⟩, fun s v hrun => ?_, clkValue_withPll0Control⟩
  refine ⟨?_, ?_, ?_, ?_⟩ <;>
    exact (exec_clkc_of_running hrun rfl).trans (congrArg Host.Outcome.next (clkcStore_eq _ s))

/-! ### The reads (R130 to R134) -/

/-- A read that answers a clock register, after an operation that stored the registers `c`, answers the register of `c`. -/
theorem exec_clockRead_after_store {wr rd : Instr} {s t : State} (field : Clkc → Word) (c : Clkc)
    (hrd : isClkcOperation rd = true) (hanswer : ∀ s, effectOf rd s = answer (field s.clkc) s)
    (hstore : effectOf wr s = clkcStore c s) (h : exec wr s = .next t) :
    exec rd t = .next (answer (field c) t) := by
  obtain ⟨hrun, -, rfl⟩ := exec_eq_next_iff.mp h
  rw [hstore, exec_clkc_of_running ((clkcStore_halted c s).trans hrun) hrd, hanswer, clkcStore_clkc]

/-- Settles O36: the selectors are looked up in the table, each read answers its register, and a store leaves the written value in that
register. -/
theorem clockRegistersReadBackWhole : Obligations.ClockRegistersReadBackWhole := by
  refine ⟨fun v => ⟨rfl, rfl, rfl, rfl⟩, fun _ _ => rfl, fun s hrun => ?_, fun s t v => ?_⟩
  · refine ⟨?_, ?_, ?_, ?_⟩ <;> exact exec_clkc_of_running hrun rfl
  · exact ⟨exec_clockRead_after_store Clkc.cpuClockDivideConfig { s.clkc with cpuClockDivideConfig := v } rfl (fun _ => rfl) rfl,
      exec_clockRead_after_store Clkc.clockSourceSelect { s.clkc with clockSourceSelect := v } rfl (fun _ => rfl) rfl,
      exec_clockRead_after_store Clkc.pll0Config { s.clkc with pll0Config := v } rfl (fun _ => rfl) rfl,
      exec_clockRead_after_store Clkc.pll0Control { s.clkc with pll0Control := v } rfl (fun _ => rfl) rfl⟩

/-- Settles O37: the effect of the read looks at no register. -/
theorem pll0StatusReadsTheFixedPattern : Obligations.Pll0StatusReadsTheFixedPattern :=
  fun _ hrun => exec_clkc_of_running hrun rfl

/-! ### The PLL0-feed strobe (R140) -/

/-- Settles O40: the selectors are looked up in the table; the effect of the write is `clkcIgnores`, which leaves the block running, so
that the read of the same offset answers 0. -/
theorem pllFeedIsAcceptedWithoutEffect : Obligations.PllFeedIsAcceptedWithoutEffect := by
  refine ⟨fun v => ⟨rfl, rfl⟩, fun s v hrun => ⟨exec_clkc_of_running hrun rfl, fun t h => ?_⟩⟩
  obtain ⟨-, -, rfl⟩ := exec_eq_next_iff.mp h
  exact exec_clkc_of_running ((effectOf_halted_of_supported rfl s).trans hrun) rfl

end Sys2Proof.Machine
end

section
/-!
SUPPORT. The clock-scale derivation of 45_clkc_derivation.md: the fields it looks at (R145), the value function (R147), its arithmetic
(R148), the ends of its range (R152) and the diagnostic of a recompute (R149, R150).
-/

namespace Sys2Proof.Machine

/-! ### The fields (R145), as parts of the register values -/

theorem Clkc.source_toNat (c : Clkc) : c.source.toNat = c.clockSourceSelect.toNat % 4 := by
  simp [Clkc.source, BitVec.extractLsb'_toNat]

/-- A test of the source is a test of the low two bits of the register. -/
theorem Clkc.source_eq_iff (c : Clkc) (code : BitVec 2) : c.source = code ↔ c.clockSourceSelect.toNat % 4 = code.toNat := by
  rw [← BitVec.toNat_inj, c.source_toNat]

theorem Clkc.multiplierM_eq (c : Clkc) : c.multiplierM = c.pll0Config.toNat % 65536 := by
  simp [Clkc.multiplierM, BitVec.extractLsb'_toNat]

theorem Clkc.dividerN_eq (c : Clkc) : c.dividerN = c.pll0Config.toNat / 65536 := by
  have hlt : c.pll0Config.toNat < 2 ^ 32 := c.pll0Config.isLt
  rw [Clkc.dividerN, BitVec.extractLsb'_toNat, Nat.shiftRight_eq_div_pow, Nat.mod_eq_of_lt (by omega)]

theorem Clkc.div8_eq (c : Clkc) : c.div8 = c.cpuClockDivideConfig.toNat % 256 := by
  simp [Clkc.div8, BitVec.extractLsb'_toNat]

theorem Clkc.multiplierM_lt (c : Clkc) : c.multiplierM < 65536 := BitVec.isLt _
theorem Clkc.dividerN_lt (c : Clkc) : c.dividerN < 65536 := BitVec.isLt _
theorem Clkc.div8_lt (c : Clkc) : c.div8 < 256 := BitVec.isLt _

/-! ### The value function (R146, R147) -/

theorem clkValue_of_internal {c : Clkc} (h : c.source = CLKSRC_INTERNAL) :
    clkValue c = 2 * (c.multiplierM + 1) * c.mainOscillatorHz / (c.dividerN + 1) / (c.div8 + 1) := if_pos h

theorem clkValue_of_not_internal {c : Clkc} (h : c.source ≠ CLKSRC_INTERNAL) : clkValue c = FALLBACK_HZ := if_neg h

/-- Settles O42: the source test and the four fields, each rewritten to a part of its register's value. -/
theorem clockValueIsTheFormula : Obligations.ClockValueIsTheFormula := by
  intro c
  rw [← c.multiplierM_eq, ← c.dividerN_eq, ← c.div8_eq]
  by_cases h : c.source = CLKSRC_INTERNAL
  · rw [clkValue_of_internal h, if_neg (not_not.mpr ((c.source_eq_iff _).mp h))]
  · rw [clkValue_of_not_internal h, if_pos (mt (c.source_eq_iff _).mpr h)]

/-! ### Fixed-width arithmetic (R148) -/

/-- Truncating division of two natural numbers that fit in `w` bits is the unsigned division of their words. -/
theorem ofNat_udiv_ofNat {w a b : Nat} (ha : a < 2 ^ w) (hb : b < 2 ^ w) :
    BitVec.ofNat w a / BitVec.ofNat w b = BitVec.ofNat w (a / b) := by
  apply BitVec.eq_of_toNat_eq
  have hq : a / b < 2 ^ w := (Nat.div_le_self a b).trans_lt ha
  simp [BitVec.toNat_udiv, Nat.mod_eq_of_lt, ha, hb, hq]

/-- Below half the range the words are not negative, and signed division is unsigned division. -/
theorem ofNat_sdiv_ofNat {w a b : Nat} (ha : 2 * a < 2 ^ w) (hb : 2 * b < 2 ^ w) :
    (BitVec.ofNat w a).sdiv (BitVec.ofNat w b) = BitVec.ofNat w (a / b) := by
  have hnonneg {n : Nat} (hn : 2 * n < 2 ^ w) : (BitVec.ofNat w n).msb = false := by
    rwa [BitVec.msb_eq_false_iff_two_mul_lt, BitVec.toNat_ofNat, Nat.mod_eq_of_lt (by omega)]
  rw [BitVec.sdiv_eq, hnonneg ha, hnonneg hb]
  exact ofNat_udiv_ofNat (by omega) (by omega)

/-- The product of R147 in 32-bit arithmetic. -/
theorem ofNat_clockProduct (m hz : Nat) :
    2 * BitVec.ofNat 32 m * BitVec.ofNat 32 hz = BitVec.ofNat 32 (2 * m * hz) := by
  rw [BitVec.ofNat_mul, BitVec.ofNat_mul]
  rfl

/-- Settles O43: the two divisions are one by the product of the divisors; and each intermediate result of the formula is at most the
product, so inside the band it is the number its word stands for. -/
theorem clockValueAgreesWithFixedWidthArithmetic : Obligations.ClockValueAgreesWithFixedWidthArithmetic := by
  intro c hsrc
  have hN := c.dividerN_lt
  have hdiv := c.div8_lt
  rw [clkValue_of_internal hsrc, ofNat_clockProduct]
  generalize 2 * (c.multiplierM + 1) * c.mainOscillatorHz = product
  have hquot : product / (c.dividerN + 1) ≤ product := Nat.div_le_self _ _
  have hvalue : product / (c.dividerN + 1) / (c.div8 + 1) ≤ product := (Nat.div_le_self _ _).trans hquot
  refine ⟨Nat.div_div_eq_div_mul .., fun hsigned => ?_, fun hunsigned => ?_⟩
  · rw [ofNat_sdiv_ofNat (by omega) (by omega), ofNat_sdiv_ofNat (by omega) (by omega), BitVec.toNat_ofNat,
      Nat.mod_eq_of_lt (by omega)]
  · rw [ofNat_udiv_ofNat (by omega) (by omega), ofNat_udiv_ofNat (by omega) (by omega), BitVec.toNat_ofNat,
      Nat.mod_eq_of_lt (by omega)]

/-! ### The range (R152) -/

/-- The smallest multiplier over the largest divisors. -/
theorem le_clkValue {c : Clkc} (h : c.source = CLKSRC_INTERNAL) : 2 * c.mainOscillatorHz / 65536 / 256 ≤ clkValue c := by
  rw [clkValue_of_internal h]
  have hproduct : 2 * c.mainOscillatorHz ≤ 2 * (c.multiplierM + 1) * c.mainOscillatorHz :=
    Nat.mul_le_mul_right _ (by omega)
  exact Nat.div_le_div (Nat.div_le_div hproduct c.dividerN_lt (by omega)) c.div8_lt (by omega)

/-- The largest multiplier, undivided. -/
theorem clkValue_le {c : Clkc} (h : c.source = CLKSRC_INTERNAL) : clkValue c ≤ 2 * 65536 * c.mainOscillatorHz := by
  rw [clkValue_of_internal h]
  calc 2 * (c.multiplierM + 1) * c.mainOscillatorHz / (c.dividerN + 1) / (c.div8 + 1)
      ≤ 2 * (c.multiplierM + 1) * c.mainOscillatorHz / (c.dividerN + 1) := Nat.div_le_self _ _
    _ ≤ 2 * (c.multiplierM + 1) * c.mainOscillatorHz := Nat.div_le_self _ _
    _ ≤ 2 * 65536 * c.mainOscillatorHz := Nat.mul_le_mul_right _ (Nat.mul_le_mul_left 2 c.multiplierM_lt)

/-- Settles O44: the bounds are those of the fields, the formula is evaluated at the three settings, and 8388608 is half of the
product of the largest divisors. -/
theorem clockValueRange : Obligations.ClockValueRange := by
  refine ⟨fun c h => ⟨le_clkValue h, clkValue_le h, fun hz0 => ?_⟩, fun hz => ⟨?_, ?_, ?_⟩, fun hz h => by omega⟩
  · have hle := clkValue_le h
    rw [hz0] at hle
    exact Nat.le_zero.mp hle
  all_goals
    rw [clkValue_of_internal rfl]
    simp [Clkc.multiplierM_eq, Clkc.dividerN_eq, Clkc.div8_eq]

/-! ### The diagnostic (R149, R150) -/

theorem clkcStore_diag_of_internal {c : Clkc} (h : c.source = CLKSRC_INTERNAL) (s : State) :
    (clkcStore c s).out.diag = s.out.diag := by
  simp only [clkcStore_eq, if_pos h]

/-- A store with another source selected adds one diagnostic, with the text for that source. -/
theorem clkcStore_diag_text_of_source {c : Clkc} {code : BitVec 2} {text : String} (h : c.source = code)
    (hcode : code ≠ CLKSRC_INTERNAL) (htext : Diag.text (.unsupportedClockSource code) = text) (s : State) :
    (clkcStore c s).out.diag.map Diag.text = s.out.diag.map Diag.text ++ [text] := by
  simp only [clkcStore_eq, h, if_neg hcode, List.map_append, List.map_singleton, htext]

theorem clkcStore_clockScale (c : Clkc) (s : State) : (clkcStore c s).out.clockScale = some (clkValue c) := by
  rw [clkcStore_eq]

theorem Diag.text_mainOscillator : Diag.text (.unsupportedClockSource 1) = "unsupported clock source: Main-Oscillator" := rfl
theorem Diag.text_rtc : Diag.text (.unsupportedClockSource 2) = "unsupported clock source: RTC" := rfl
theorem Diag.text_unknown : Diag.text (.unsupportedClockSource 3) = "unsupported clock source: unknown (3)" := rfl

/-- Settles O46: the effect of the write is `clkcStore` of registers whose source is the low two bits of the written value; the cases
are the four codes, and every code but 0 publishes the fallback value. -/
theorem clockSourceDiagnosticNamesTheSource : Obligations.ClockSourceDiagnosticNamesTheSource := by
  intro s t v h
  obtain ⟨-, -, rfl⟩ := exec_eq_next_iff.mp h
  rw [show effectOf (.clkcWrClksrc v) s = clkcStore { s.clkc with clockSourceSelect := v } s from rfl]
  generalize hc : ({ s.clkc with clockSourceSelect := v } : Clkc) = c
  have hsource (code : BitVec 2) : c.source = code ↔ v.toNat % 4 = code.toNat := by
    rw [c.source_eq_iff, ← hc]
  refine ⟨fun h0 => clkcStore_diag_of_internal ((hsource 0).mpr h0) s,
    fun h1 => clkcStore_diag_text_of_source ((hsource 1).mpr h1) (by decide) Diag.text_mainOscillator s,
    fun h2 => clkcStore_diag_text_of_source ((hsource 2).mpr h2) (by decide) Diag.text_rtc s,
    fun h3 => clkcStore_diag_text_of_source ((hsource 3).mpr h3) (by decide) Diag.text_unknown s, fun hne => ?_⟩
  rw [clkcStore_clockScale, clkValue_of_not_internal (mt (hsource _).mp hne)]

end Sys2Proof.Machine
end

section
/-!
SUPPORT. The exception rules of 60_exceptions.md: an unsupported clock source (R163) is a fallback publication, not an error.
-/

namespace Sys2Proof.Machine

/-- A CLKC register write completes (R136 to R139), whatever it stores. -/
@[simp] theorem clkcStore_response (c : Clkc) (s : State) : (clkcStore c s).response = .done := by rw [clkcStore_eq]

/-- A store with a source other than Internal publishes the fallback value (R147, R149). -/
theorem clkcStore_clockScale_of_not_internal {c : Clkc} (h : c.source ≠ CLKSRC_INTERNAL) (s : State) :
    (clkcStore c s).out.clockScale = some FALLBACK_HZ := by
  rw [clkcStore_clockScale, clkValue_of_not_internal h]

/-- A store with a source other than Internal adds one diagnostic, which names that source (R149). -/
theorem clkcStore_diag_of_not_internal {c : Clkc} (h : c.source ≠ CLKSRC_INTERNAL) (s : State) :
    (clkcStore c s).out.diag = s.out.diag ++ [.unsupportedClockSource c.source] := by
  simp only [clkcStore_eq, if_neg h]

/-- Once published, the fallback value stays through every operation that leaves a source other than Internal: one of the four stores
publishes it again, and no other operation publishes (R151). -/
theorem effectOf_keeps_fallback (i : Instr) {s : State} (hscale : s.out.clockScale = some FALLBACK_HZ)
    (hsource : (effectOf i s).clkc.source ≠ CLKSRC_INTERNAL) : (effectOf i s).out.clockScale = some FALLBACK_HZ := by
  obtain ⟨c, -, heffect⟩ | ⟨-, -, hkeep, -⟩ := effectOf_clock_cases i s
  · rw [heffect, clkcStore_clkc] at hsource
    rw [heffect, clkcStore_clockScale_of_not_internal hsource]
  · rw [hkeep, hscale]

/-- Settles O47: the store of the source is `clkcStore` with a source other than Internal; afterwards a step is idle or one operation,
and either keeps the fallback value. -/
theorem unsupportedClockSourceIsRecoverable : Obligations.UnsupportedClockSourceIsRecoverable := by
  constructor
  · intro s v hrun hv
    have hsource : ({ s.clkc with clockSourceSelect := v } : Clkc).source ≠ CLKSRC_INTERNAL :=
      mt (Clkc.source_eq_iff _ _).mp hv
    refine ⟨_, exec_clkc_of_running hrun rfl, ?_⟩
    rw [show effectOf (.clkcWrClksrc v) s = clkcStore { s.clkc with clockSourceSelect := v } s from rfl]
    exact ⟨clkcStore_response _ s, by rw [clkcStore_clkc], clkcStore_clockScale_of_not_internal hsource s,
      ⟨_, clkcStore_diag_of_not_internal hsource s⟩, (clkcStore_halted _ s).trans hrun⟩
  · intro s t _ hscale h hsource
    obtain rfl | ⟨i, rest, r, -, -, rfl⟩ := step_eq_next_cases h
    · exact hscale
    · exact effectOf_keeps_fallback i (s := { s with pending := rest }) hscale (mt (Clkc.source_eq_iff _ _).mp hsource)

end Sys2Proof.Machine
end

section
/-!
SUPPORT. The reset of 70_reset_and_hazards.md: `UART.RESET()` against construction (R180, R182, R183).
-/

namespace Sys2Proof.Machine

/-- The reset constructs the UART again, with its attachment, but for the two registers that have no default (R182; D9, log 11). -/
theorem Uart.restoreDefaults_eq_construct (u : Uart) :
    u.restoreDefaults =
      { Uart.construct u.backendAttached with fifoControl := u.fifoControl, lineControl := u.lineControl } := rfl

/-- Hence it is construction where those two registers hold their construction values. -/
theorem Uart.restoreDefaults_eq_construct_of_controls {u : Uart} (hfifo : u.fifoControl = FIFO_CONTROL_CONSTRUCTED)
    (hline : u.lineControl = LINE_CONTROL_CONSTRUCTED) : u.restoreDefaults = Uart.construct u.backendAttached := by
  rw [u.restoreDefaults_eq_construct, hfifo, hline]
  rfl

/-- Settles O34: the effect of the reset is `Uart.restoreDefaults` and the answer `done`, and the construction value of both control
registers is 0. -/
theorem resetRestoresTheSixDefaults : Obligations.ResetRestoresTheSixDefaults := by
  refine ⟨fun s hrun => exec_eq_next_iff.mpr ⟨hrun, nofun, rfl⟩, fun s t _ h hfifo hline => ?_⟩
  obtain ⟨-, -, rfl⟩ := exec_eq_next_iff.mp h
  exact Uart.restoreDefaults_eq_construct_of_controls hfifo hline

end Sys2Proof.Machine
end
